-- ==== Sys2Proof/Word.lean ====
section
/-! DEFINITION. The two word types of the core: bytes and 16-bit words (spec/00_scope.md R6, R10). -/

namespace Sys2Proof

/-- `u8`: a register, a byte of memory, an opcode (R10). -/
abbrev Byte := BitVec 8

/-- `u16`: an address, `pc`, `sp`, a register pair (R10). -/
abbrev Word := BitVec 16

end Sys2Proof
end

