-- ==== Sys2Proof/Machine/Bits.lean ====
section
/-! DEFINITION. The bit-field, byte-order and sign-extension helpers of spec/00_scope.md R9, R10. -/

namespace Sys2Proof.Machine

/-- `hi8(v) = v[15:8]` (R9). -/
def hi8 (v : Word) : Byte := v.extractLsb' 8 8

/-- `lo8(v) = v[7:0]` (R9). -/
def lo8 (v : Word) : Byte := v.extractLsb' 0 8

/-- `h ++ l = h * 256 + l` (R9). -/
def join (h l : Byte) : Word := h ++ l

/-- `zext_16(v)` (R10). -/
def zext16 (v : Byte) : Word := v.zeroExtend 16

/-- `sext_16(d)` (R10): `d` if `d < 0x80`, else `d + 0xFF00`. -/
def sext16 (d : Byte) : Word := d.signExtend 16

/-- `v & 0xF`, the low nibble as a number. -/
def lo4 (v : Byte) : Nat := v.toNat % 0x10

/-- A bit as a byte, 0 or 1. -/
def bitByte (b : Bool) : Byte := if b then 1 else 0

end Sys2Proof.Machine
end

