-- ==== Sys2Proof/Syntax.lean ====
section
/-! DEFINITION. The syntax of the instruction set: the selector tables of spec/30_encoding.md R90, the Instruction in the
source's notation (`Kind`, R98, the column `kind` of opcode_table.json) and `Instr`, one constructor per mnemonic of
opcode_table.json. -/

namespace Sys2Proof

/-- A general 8-bit register (R21); the selector of the source's Add and Rlc. F is not selectable (D3). -/
inductive Reg8 where
  | a
  | b
  | c
  | d
  | e
  | h
  | l
  deriving DecidableEq, Repr

/-- A pair or register named by `xp[rr]` (R11): BC, DE, HL, AF or SP. -/
inductive Reg16 where
  | bc
  | de
  | hl
  | sp
  | af
  deriving DecidableEq, Repr

/-- The table `rp[]` of R90: loads, INC, DEC, ADD HL. -/
inductive Rp where
  | bc
  | de
  | hl
  | sp
  deriving DecidableEq, Repr

/-- The table `rp2[]` of R90: PUSH, POP. -/
inductive Rp2 where
  | bc
  | de
  | hl
  | af
  deriving DecidableEq, Repr

/-- The conditions of R98 and R133, `always` among them. -/
inductive Cond where
  | notZero
  | zero
  | notCarry
  | carry
  | always
  deriving DecidableEq, Repr

/-- The table `alu[]` of R90. -/
inductive AluOp where
  | add
  | adc
  | sub
  | sbc
  | and
  | xor
  | or
  | cp
  deriving DecidableEq, Repr

/-- The table `rot[]` of R90. -/
inductive RotOp where
  | rlc
  | rrc
  | rl
  | rr
  | sla
  | sra
  | swap
  | srl
  deriving DecidableEq, Repr

/-- The table `r[]` of R90: a register, or the byte of memory at `xp[HL]`. -/
inductive Loc8 where
  | reg (r : Reg8)
  | memHl
  deriving DecidableEq, Repr

/-- The three operand forms of the accumulator operations (R200). -/
inductive Operand8 where
  | reg (r : Reg8)
  | memHl
  | imm
  deriving DecidableEq, Repr

/-- The operations of the prefixed table (R94): a rotate or shift, or a bit operation on bit `b`. -/
inductive CbOp where
  | rot (op : RotOp)
  | bit (b : Fin 8)
  | res (b : Fin 8)
  | set (b : Fin 8)
  deriving DecidableEq, Repr

/-- The decoded Instruction as the source writes it, a kind with its selectors (R13, R98). `marker op2` is the row
`prefix`, `unknown op` the decoder's answer "unknown". -/
inductive Kind where
  | nop
  | ldPairImm (p : Rp)
  | inc (p : Rp)
  | inc8 (x : Loc8)
  | dec8 (x : Loc8)
  | ldRegImm (r : Reg8)
  | ldMemHlImm
  | rlca
  | rrca
  | rla
  | rra
  | daa
  | cpl
  | scf
  | ccf
  | ldMemNnSp
  | addHl (p : Rp)
  | dec16 (p : Rp)
  | ldAMemBc
  | ldAMemDe
  | ldMemDeA
  | ldMemHliA
  | ldAMemHli
  | ldMemHldA
  | ldAMemHld
  | ldRegReg (rd rs : Reg8)
  | ldRegMemHl (r : Reg8)
  | ldMemHlReg (r : Reg8)
  | alu (op : AluOp) (v : Operand8)
  | jp (cc : Cond)
  | jpHl
  | jr (cc : Cond)
  | call (cc : Cond)
  | ret (cc : Cond)
  | rst (t : Fin 7)
  | push (p : Rp2)
  | pop (p : Rp2)
  | ldhMemNA
  | ldhAMemN
  | ldMemCA
  | ldAMemC
  | ldMemNnA
  | ldAMemNn
  | addSpDisp
  | ldHlSpDisp
  | ldSpHl
  | cb (op : CbOp) (x : Loc8)
  | marker (op2 : Byte)
  | unknown (op : Byte)
  deriving DecidableEq, Repr

/-- One constructor per mnemonic of spec/opcode_table.json (the rows 0x02 and 0x03 are one Instruction, R101). An
Instruction carries selectors only, never immediates (R86, R115). -/
inductive Instr where
  /-- `NOP`: 00, R240. -/
  | nop
  /-- `LD BC,nn`: 01 lo hi, R180. -/
  | ldBcNn
  /-- `INC BC`: 02, R131. -/
  | incBc
  /-- `INC B`: 04, R209. -/
  | incB
  /-- `DEC B`: 05, R210. -/
  | decB
  /-- `LD B,n`: 06 n, R153. -/
  | ldBN
  /-- `RLCA`: 07, R241. -/
  | rlca
  /-- `LD (nn),SP`: 08 lo hi, R181. -/
  | ldMemNnSp
  /-- `ADD HL,BC`: 09, R230. -/
  | addHlBc
  /-- `LD A,(BC)`: 0A, R155. -/
  | ldAMemBc
  /-- `DEC BC`: 0B, R231. -/
  | decBc
  /-- `INC C`: 0C, R209. -/
  | incC
  /-- `DEC C`: 0D, R210. -/
  | decC
  /-- `LD C,n`: 0E n, R153. -/
  | ldCN
  /-- `RRCA`: 0F, R242. -/
  | rrca
  /-- rows `(unknown)`, R96: an opcode byte that decodes to no Instruction of the unprefixed table. -/
  | unknown (op : Byte)
  /-- `LD DE,nn`: 11 lo hi, R180. -/
  | ldDeNn
  /-- `LD (DE),A`: 12, R157. -/
  | ldMemDeA
  /-- `INC DE`: 13, R131. -/
  | incDe
  /-- `INC D`: 14, R209. -/
  | incD
  /-- `DEC D`: 15, R210. -/
  | decD
  /-- `LD D,n`: 16 n, R153. -/
  | ldDN
  /-- `RLA`: 17, R243. -/
  | rla
  /-- `JR d`: 18 d, R280. -/
  | jrDisp
  /-- `ADD HL,DE`: 19, R230. -/
  | addHlDe
  /-- `LD A,(DE)`: 1A, R156. -/
  | ldAMemDe
  /-- `DEC DE`: 1B, R231. -/
  | decDe
  /-- `INC E`: 1C, R209. -/
  | incE
  /-- `DEC E`: 1D, R210. -/
  | decE
  /-- `LD E,n`: 1E n, R153. -/
  | ldEN
  /-- `RRA`: 1F, R244. -/
  | rra
  /-- `JR NZ,d`: 20 d, R281. -/
  | jrNzDisp
  /-- `LD HL,nn`: 21 lo hi, R180. -/
  | ldHlNn
  /-- `LD (HL+),A`: 22, R164. -/
  | ldMemHliA
  /-- `INC HL`: 23, R131. -/
  | incHl
  /-- `INC H`: 24, R209. -/
  | incH
  /-- `DEC H`: 25, R210. -/
  | decH
  /-- `LD H,n`: 26 n, R153. -/
  | ldHN
  /-- `DAA`: 27, R245. -/
  | daa
  /-- `JR Z,d`: 28 d, R281. -/
  | jrZDisp
  /-- `ADD HL,HL`: 29, R230. -/
  | addHlHl
  /-- `LD A,(HL+)`: 2A, R165. -/
  | ldAMemHli
  /-- `DEC HL`: 2B, R231. -/
  | decHl
  /-- `INC L`: 2C, R209. -/
  | incL
  /-- `DEC L`: 2D, R210. -/
  | decL
  /-- `LD L,n`: 2E n, R153. -/
  | ldLN
  /-- `CPL`: 2F, R246. -/
  | cpl
  /-- `JR NC,d`: 30 d, R281. -/
  | jrNcDisp
  /-- `LD SP,nn`: 31 lo hi, R180. -/
  | ldSpNn
  /-- `LD (HL-),A`: 32, R166. -/
  | ldMemHldA
  /-- `INC SP`: 33, R131. -/
  | incSp
  /-- `INC (HL)`: 34, R209. -/
  | incMemHl
  /-- `DEC (HL)`: 35, R210. -/
  | decMemHl
  /-- `LD (HL),n`: 36 n, R154. -/
  | ldMemHlN
  /-- `SCF`: 37, R247. -/
  | scf
  /-- `JR C,d`: 38 d, R281. -/
  | jrCDisp
  /-- `ADD HL,SP`: 39, R230. -/
  | addHlSp
  /-- `LD A,(HL-)`: 3A, R167. -/
  | ldAMemHld
  /-- `DEC SP`: 3B, R231. -/
  | decSp
  /-- `INC A`: 3C, R209. -/
  | incA
  /-- `DEC A`: 3D, R210. -/
  | decA
  /-- `LD A,n`: 3E n, R153. -/
  | ldAN
  /-- `CCF`: 3F, R248. -/
  | ccf
  /-- `LD B,B`: 40, R150. -/
  | ldBB
  /-- `LD B,C`: 41, R150. -/
  | ldBC
  /-- `LD B,D`: 42, R150. -/
  | ldBD
  /-- `LD B,E`: 43, R150. -/
  | ldBE
  /-- `LD B,H`: 44, R150. -/
  | ldBH
  /-- `LD B,L`: 45, R150. -/
  | ldBL
  /-- `LD B,(HL)`: 46, R151. -/
  | ldBMemHl
  /-- `LD B,A`: 47, R150. -/
  | ldBA
  /-- `LD C,B`: 48, R150. -/
  | ldCB
  /-- `LD C,C`: 49, R150. -/
  | ldCC
  /-- `LD C,D`: 4A, R150. -/
  | ldCD
  /-- `LD C,E`: 4B, R150. -/
  | ldCE
  /-- `LD C,H`: 4C, R150. -/
  | ldCH
  /-- `LD C,L`: 4D, R150. -/
  | ldCL
  /-- `LD C,(HL)`: 4E, R151. -/
  | ldCMemHl
  /-- `LD C,A`: 4F, R150. -/
  | ldCA
  /-- `LD D,B`: 50, R150. -/
  | ldDB
  /-- `LD D,C`: 51, R150. -/
  | ldDC
  /-- `LD D,D`: 52, R150. -/
  | ldDD
  /-- `LD D,E`: 53, R150. -/
  | ldDE
  /-- `LD D,H`: 54, R150. -/
  | ldDH
  /-- `LD D,L`: 55, R150. -/
  | ldDL
  /-- `LD D,(HL)`: 56, R151. -/
  | ldDMemHl
  /-- `LD D,A`: 57, R150. -/
  | ldDA
  /-- `LD E,B`: 58, R150. -/
  | ldEB
  /-- `LD E,C`: 59, R150. -/
  | ldEC
  /-- `LD E,D`: 5A, R150. -/
  | ldED
  /-- `LD E,E`: 5B, R150. -/
  | ldEE
  /-- `LD E,H`: 5C, R150. -/
  | ldEH
  /-- `LD E,L`: 5D, R150. -/
  | ldEL
  /-- `LD E,(HL)`: 5E, R151. -/
  | ldEMemHl
  /-- `LD E,A`: 5F, R150. -/
  | ldEA
  /-- `LD H,B`: 60, R150. -/
  | ldHB
  /-- `LD H,C`: 61, R150. -/
  | ldHC
  /-- `LD H,D`: 62, R150. -/
  | ldHD
  /-- `LD H,E`: 63, R150. -/
  | ldHE
  /-- `LD H,H`: 64, R150. -/
  | ldHH
  /-- `LD H,L`: 65, R150. -/
  | ldHL
  /-- `LD H,(HL)`: 66, R151. -/
  | ldHMemHl
  /-- `LD H,A`: 67, R150. -/
  | ldHA
  /-- `LD L,B`: 68, R150. -/
  | ldLB
  /-- `LD L,C`: 69, R150. -/
  | ldLC
  /-- `LD L,D`: 6A, R150. -/
  | ldLD
  /-- `LD L,E`: 6B, R150. -/
  | ldLE
  /-- `LD L,H`: 6C, R150. -/
  | ldLH
  /-- `LD L,L`: 6D, R150. -/
  | ldLL
  /-- `LD L,(HL)`: 6E, R151. -/
  | ldLMemHl
  /-- `LD L,A`: 6F, R150. -/
  | ldLA
  /-- `LD (HL),B`: 70, R152. -/
  | ldMemHlB
  /-- `LD (HL),C`: 71, R152. -/
  | ldMemHlC
  /-- `LD (HL),D`: 72, R152. -/
  | ldMemHlD
  /-- `LD (HL),E`: 73, R152. -/
  | ldMemHlE
  /-- `LD (HL),H`: 74, R152. -/
  | ldMemHlH
  /-- `LD (HL),L`: 75, R152. -/
  | ldMemHlL
  /-- `LD (HL),A`: 77, R152. -/
  | ldMemHlA
  /-- `LD A,B`: 78, R150. -/
  | ldAB
  /-- `LD A,C`: 79, R150. -/
  | ldAC
  /-- `LD A,D`: 7A, R150. -/
  | ldAD
  /-- `LD A,E`: 7B, R150. -/
  | ldAE
  /-- `LD A,H`: 7C, R150. -/
  | ldAH
  /-- `LD A,L`: 7D, R150. -/
  | ldAL
  /-- `LD A,(HL)`: 7E, R151. -/
  | ldAMemHl
  /-- `LD A,A`: 7F, R150. -/
  | ldAA
  /-- `ADD A,B`: 80, R130. -/
  | addAB
  /-- `ADD A,C`: 81, R130. -/
  | addAC
  /-- `ADD A,D`: 82, R130. -/
  | addAD
  /-- `ADD A,E`: 83, R130. -/
  | addAE
  /-- `ADD A,H`: 84, R130. -/
  | addAH
  /-- `ADD A,L`: 85, R130. -/
  | addAL
  /-- `ADD A,(HL)`: 86, R201. -/
  | addAMemHl
  /-- `ADD A,A`: 87, R130. -/
  | addAA
  /-- `ADC A,B`: 88, R202. -/
  | adcAB
  /-- `ADC A,C`: 89, R202. -/
  | adcAC
  /-- `ADC A,D`: 8A, R202. -/
  | adcAD
  /-- `ADC A,E`: 8B, R202. -/
  | adcAE
  /-- `ADC A,H`: 8C, R202. -/
  | adcAH
  /-- `ADC A,L`: 8D, R202. -/
  | adcAL
  /-- `ADC A,(HL)`: 8E, R202. -/
  | adcAMemHl
  /-- `ADC A,A`: 8F, R202. -/
  | adcAA
  /-- `SUB A,B`: 90, R203. -/
  | subAB
  /-- `SUB A,C`: 91, R203. -/
  | subAC
  /-- `SUB A,D`: 92, R203. -/
  | subAD
  /-- `SUB A,E`: 93, R203. -/
  | subAE
  /-- `SUB A,H`: 94, R203. -/
  | subAH
  /-- `SUB A,L`: 95, R203. -/
  | subAL
  /-- `SUB A,(HL)`: 96, R203. -/
  | subAMemHl
  /-- `SUB A,A`: 97, R203. -/
  | subAA
  /-- `SBC A,B`: 98, R204. -/
  | sbcAB
  /-- `SBC A,C`: 99, R204. -/
  | sbcAC
  /-- `SBC A,D`: 9A, R204. -/
  | sbcAD
  /-- `SBC A,E`: 9B, R204. -/
  | sbcAE
  /-- `SBC A,H`: 9C, R204. -/
  | sbcAH
  /-- `SBC A,L`: 9D, R204. -/
  | sbcAL
  /-- `SBC A,(HL)`: 9E, R204. -/
  | sbcAMemHl
  /-- `SBC A,A`: 9F, R204. -/
  | sbcAA
  /-- `AND A,B`: A0, R205. -/
  | andAB
  /-- `AND A,C`: A1, R205. -/
  | andAC
  /-- `AND A,D`: A2, R205. -/
  | andAD
  /-- `AND A,E`: A3, R205. -/
  | andAE
  /-- `AND A,H`: A4, R205. -/
  | andAH
  /-- `AND A,L`: A5, R205. -/
  | andAL
  /-- `AND A,(HL)`: A6, R205. -/
  | andAMemHl
  /-- `AND A,A`: A7, R205. -/
  | andAA
  /-- `XOR A,B`: A8, R206. -/
  | xorAB
  /-- `XOR A,C`: A9, R206. -/
  | xorAC
  /-- `XOR A,D`: AA, R206. -/
  | xorAD
  /-- `XOR A,E`: AB, R206. -/
  | xorAE
  /-- `XOR A,H`: AC, R206. -/
  | xorAH
  /-- `XOR A,L`: AD, R206. -/
  | xorAL
  /-- `XOR A,(HL)`: AE, R206. -/
  | xorAMemHl
  /-- `XOR A,A`: AF, R206. -/
  | xorAA
  /-- `OR A,B`: B0, R207. -/
  | orAB
  /-- `OR A,C`: B1, R207. -/
  | orAC
  /-- `OR A,D`: B2, R207. -/
  | orAD
  /-- `OR A,E`: B3, R207. -/
  | orAE
  /-- `OR A,H`: B4, R207. -/
  | orAH
  /-- `OR A,L`: B5, R207. -/
  | orAL
  /-- `OR A,(HL)`: B6, R207. -/
  | orAMemHl
  /-- `OR A,A`: B7, R207. -/
  | orAA
  /-- `CP A,B`: B8, R208. -/
  | cpAB
  /-- `CP A,C`: B9, R208. -/
  | cpAC
  /-- `CP A,D`: BA, R208. -/
  | cpAD
  /-- `CP A,E`: BB, R208. -/
  | cpAE
  /-- `CP A,H`: BC, R208. -/
  | cpAH
  /-- `CP A,L`: BD, R208. -/
  | cpAL
  /-- `CP A,(HL)`: BE, R208. -/
  | cpAMemHl
  /-- `CP A,A`: BF, R208. -/
  | cpAA
  /-- `RET NZ`: C0, R286. -/
  | retNz
  /-- `POP BC`: C1, R185. -/
  | popBc
  /-- `JP NZ,nn`: C2 lo hi, R133. -/
  | jpNzNn
  /-- `JP nn`: C3 lo hi, R133. -/
  | jpNn
  /-- `CALL NZ,nn`: C4 lo hi, R284. -/
  | callNzNn
  /-- `PUSH BC`: C5, R184. -/
  | pushBc
  /-- `ADD A,n`: C6 n, R201. -/
  | addAN
  /-- `RST 00H`: C7, R287. -/
  | rst00H
  /-- `RET Z`: C8, R286. -/
  | retZ
  /-- `RET`: C9, R285. -/
  | ret
  /-- `JP Z,nn`: CA lo hi, R133. -/
  | jpZNn
  /-- row `prefix_CB`, R87, R111: the marker 0xCB with the second byte `op2`, still to be looked up in the prefixed table. -/
  | prefixCB (op2 : Byte)
  /-- `CALL Z,nn`: CC lo hi, R284. -/
  | callZNn
  /-- `CALL nn`: CD lo hi, R283. -/
  | callNn
  /-- `ADC A,n`: CE n, R202. -/
  | adcAN
  /-- `RST 08H`: CF, R287. -/
  | rst08H
  /-- `RET NC`: D0, R286. -/
  | retNc
  /-- `POP DE`: D1, R185. -/
  | popDe
  /-- `JP NC,nn`: D2 lo hi, R133. -/
  | jpNcNn
  /-- `CALL NC,nn`: D4 lo hi, R284. -/
  | callNcNn
  /-- `PUSH DE`: D5, R184. -/
  | pushDe
  /-- `SUB A,n`: D6 n, R203. -/
  | subAN
  /-- `RST 10H`: D7, R287. -/
  | rst10H
  /-- `RET C`: D8, R286. -/
  | retC
  /-- `JP C,nn`: DA lo hi, R133. -/
  | jpCNn
  /-- `CALL C,nn`: DC lo hi, R284. -/
  | callCNn
  /-- `SBC A,n`: DE n, R204. -/
  | sbcAN
  /-- `RST 18H`: DF, R287. -/
  | rst18H
  /-- `LDH (n),A`: E0 n, R161. -/
  | ldhMemNA
  /-- `POP HL`: E1, R185. -/
  | popHl
  /-- `LD (C),A`: E2, R163. -/
  | ldMemCA
  /-- `PUSH HL`: E5, R184. -/
  | pushHl
  /-- `AND A,n`: E6 n, R205. -/
  | andAN
  /-- `RST 20H`: E7, R287. -/
  | rst20H
  /-- `ADD SP,d`: E8 d, R232. -/
  | addSpDisp
  /-- `JP HL`: E9, R282. -/
  | jpHl
  /-- `LD (nn),A`: EA lo hi, R159. -/
  | ldMemNnA
  /-- `XOR A,n`: EE n, R206. -/
  | xorAN
  /-- `RST 28H`: EF, R287. -/
  | rst28H
  /-- `LDH A,(n)`: F0 n, R160. -/
  | ldhAMemN
  /-- `POP AF`: F1, R185. -/
  | popAf
  /-- `LD A,(C)`: F2, R162. -/
  | ldAMemC
  /-- `PUSH AF`: F5, R184. -/
  | pushAf
  /-- `OR A,n`: F6 n, R207. -/
  | orAN
  /-- `RST 30H`: F7, R287. -/
  | rst30H
  /-- `LD HL,SP+d`: F8 d, R183. -/
  | ldHlSpDisp
  /-- `LD SP,HL`: F9, R182. -/
  | ldSpHl
  /-- `LD A,(nn)`: FA lo hi, R158. -/
  | ldAMemNn
  /-- `CP A,n`: FE n, R208. -/
  | cpAN
  /-- `RLC B`: CB 00, R132. -/
  | rlcB
  /-- `RLC C`: CB 01, R132. -/
  | rlcC
  /-- `RLC D`: CB 02, R132. -/
  | rlcD
  /-- `RLC E`: CB 03, R132. -/
  | rlcE
  /-- `RLC H`: CB 04, R132. -/
  | rlcH
  /-- `RLC L`: CB 05, R132. -/
  | rlcL
  /-- `RLC (HL)`: CB 06, R261. -/
  | rlcMemHl
  /-- `RLC A`: CB 07, R132. -/
  | rlcA
  /-- `RRC B`: CB 08, R262. -/
  | rrcB
  /-- `RRC C`: CB 09, R262. -/
  | rrcC
  /-- `RRC D`: CB 0A, R262. -/
  | rrcD
  /-- `RRC E`: CB 0B, R262. -/
  | rrcE
  /-- `RRC H`: CB 0C, R262. -/
  | rrcH
  /-- `RRC L`: CB 0D, R262. -/
  | rrcL
  /-- `RRC (HL)`: CB 0E, R262. -/
  | rrcMemHl
  /-- `RRC A`: CB 0F, R262. -/
  | rrcA
  /-- `RL B`: CB 10, R263. -/
  | rlB
  /-- `RL C`: CB 11, R263. -/
  | rlC
  /-- `RL D`: CB 12, R263. -/
  | rlD
  /-- `RL E`: CB 13, R263. -/
  | rlE
  /-- `RL H`: CB 14, R263. -/
  | rlH
  /-- `RL L`: CB 15, R263. -/
  | rlL
  /-- `RL (HL)`: CB 16, R263. -/
  | rlMemHl
  /-- `RL A`: CB 17, R263. -/
  | rlA
  /-- `RR B`: CB 18, R264. -/
  | rrB
  /-- `RR C`: CB 19, R264. -/
  | rrC
  /-- `RR D`: CB 1A, R264. -/
  | rrD
  /-- `RR E`: CB 1B, R264. -/
  | rrE
  /-- `RR H`: CB 1C, R264. -/
  | rrH
  /-- `RR L`: CB 1D, R264. -/
  | rrL
  /-- `RR (HL)`: CB 1E, R264. -/
  | rrMemHl
  /-- `RR A`: CB 1F, R264. -/
  | rrA
  /-- `SLA B`: CB 20, R265. -/
  | slaB
  /-- `SLA C`: CB 21, R265. -/
  | slaC
  /-- `SLA D`: CB 22, R265. -/
  | slaD
  /-- `SLA E`: CB 23, R265. -/
  | slaE
  /-- `SLA H`: CB 24, R265. -/
  | slaH
  /-- `SLA L`: CB 25, R265. -/
  | slaL
  /-- `SLA (HL)`: CB 26, R265. -/
  | slaMemHl
  /-- `SLA A`: CB 27, R265. -/
  | slaA
  /-- `SRA B`: CB 28, R266. -/
  | sraB
  /-- `SRA C`: CB 29, R266. -/
  | sraC
  /-- `SRA D`: CB 2A, R266. -/
  | sraD
  /-- `SRA E`: CB 2B, R266. -/
  | sraE
  /-- `SRA H`: CB 2C, R266. -/
  | sraH
  /-- `SRA L`: CB 2D, R266. -/
  | sraL
  /-- `SRA (HL)`: CB 2E, R266. -/
  | sraMemHl
  /-- `SRA A`: CB 2F, R266. -/
  | sraA
  /-- `SWAP B`: CB 30, R267. -/
  | swapB
  /-- `SWAP C`: CB 31, R267. -/
  | swapC
  /-- `SWAP D`: CB 32, R267. -/
  | swapD
  /-- `SWAP E`: CB 33, R267. -/
  | swapE
  /-- `SWAP H`: CB 34, R267. -/
  | swapH
  /-- `SWAP L`: CB 35, R267. -/
  | swapL
  /-- `SWAP (HL)`: CB 36, R267. -/
  | swapMemHl
  /-- `SWAP A`: CB 37, R267. -/
  | swapA
  /-- `SRL B`: CB 38, R268. -/
  | srlB
  /-- `SRL C`: CB 39, R268. -/
  | srlC
  /-- `SRL D`: CB 3A, R268. -/
  | srlD
  /-- `SRL E`: CB 3B, R268. -/
  | srlE
  /-- `SRL H`: CB 3C, R268. -/
  | srlH
  /-- `SRL L`: CB 3D, R268. -/
  | srlL
  /-- `SRL (HL)`: CB 3E, R268. -/
  | srlMemHl
  /-- `SRL A`: CB 3F, R268. -/
  | srlA
  /-- `BIT 0,B`: CB 40, R269. -/
  | bit0B
  /-- `BIT 0,C`: CB 41, R269. -/
  | bit0C
  /-- `BIT 0,D`: CB 42, R269. -/
  | bit0D
  /-- `BIT 0,E`: CB 43, R269. -/
  | bit0E
  /-- `BIT 0,H`: CB 44, R269. -/
  | bit0H
  /-- `BIT 0,L`: CB 45, R269. -/
  | bit0L
  /-- `BIT 0,(HL)`: CB 46, R269. -/
  | bit0MemHl
  /-- `BIT 0,A`: CB 47, R269. -/
  | bit0A
  /-- `BIT 1,B`: CB 48, R269. -/
  | bit1B
  /-- `BIT 1,C`: CB 49, R269. -/
  | bit1C
  /-- `BIT 1,D`: CB 4A, R269. -/
  | bit1D
  /-- `BIT 1,E`: CB 4B, R269. -/
  | bit1E
  /-- `BIT 1,H`: CB 4C, R269. -/
  | bit1H
  /-- `BIT 1,L`: CB 4D, R269. -/
  | bit1L
  /-- `BIT 1,(HL)`: CB 4E, R269. -/
  | bit1MemHl
  /-- `BIT 1,A`: CB 4F, R269. -/
  | bit1A
  /-- `BIT 2,B`: CB 50, R269. -/
  | bit2B
  /-- `BIT 2,C`: CB 51, R269. -/
  | bit2C
  /-- `BIT 2,D`: CB 52, R269. -/
  | bit2D
  /-- `BIT 2,E`: CB 53, R269. -/
  | bit2E
  /-- `BIT 2,H`: CB 54, R269. -/
  | bit2H
  /-- `BIT 2,L`: CB 55, R269. -/
  | bit2L
  /-- `BIT 2,(HL)`: CB 56, R269. -/
  | bit2MemHl
  /-- `BIT 2,A`: CB 57, R269. -/
  | bit2A
  /-- `BIT 3,B`: CB 58, R269. -/
  | bit3B
  /-- `BIT 3,C`: CB 59, R269. -/
  | bit3C
  /-- `BIT 3,D`: CB 5A, R269. -/
  | bit3D
  /-- `BIT 3,E`: CB 5B, R269. -/
  | bit3E
  /-- `BIT 3,H`: CB 5C, R269. -/
  | bit3H
  /-- `BIT 3,L`: CB 5D, R269. -/
  | bit3L
  /-- `BIT 3,(HL)`: CB 5E, R269. -/
  | bit3MemHl
  /-- `BIT 3,A`: CB 5F, R269. -/
  | bit3A
  /-- `BIT 4,B`: CB 60, R269. -/
  | bit4B
  /-- `BIT 4,C`: CB 61, R269. -/
  | bit4C
  /-- `BIT 4,D`: CB 62, R269. -/
  | bit4D
  /-- `BIT 4,E`: CB 63, R269. -/
  | bit4E
  /-- `BIT 4,H`: CB 64, R269. -/
  | bit4H
  /-- `BIT 4,L`: CB 65, R269. -/
  | bit4L
  /-- `BIT 4,(HL)`: CB 66, R269. -/
  | bit4MemHl
  /-- `BIT 4,A`: CB 67, R269. -/
  | bit4A
  /-- `BIT 5,B`: CB 68, R269. -/
  | bit5B
  /-- `BIT 5,C`: CB 69, R269. -/
  | bit5C
  /-- `BIT 5,D`: CB 6A, R269. -/
  | bit5D
  /-- `BIT 5,E`: CB 6B, R269. -/
  | bit5E
  /-- `BIT 5,H`: CB 6C, R269. -/
  | bit5H
  /-- `BIT 5,L`: CB 6D, R269. -/
  | bit5L
  /-- `BIT 5,(HL)`: CB 6E, R269. -/
  | bit5MemHl
  /-- `BIT 5,A`: CB 6F, R269. -/
  | bit5A
  /-- `BIT 6,B`: CB 70, R269. -/
  | bit6B
  /-- `BIT 6,C`: CB 71, R269. -/
  | bit6C
  /-- `BIT 6,D`: CB 72, R269. -/
  | bit6D
  /-- `BIT 6,E`: CB 73, R269. -/
  | bit6E
  /-- `BIT 6,H`: CB 74, R269. -/
  | bit6H
  /-- `BIT 6,L`: CB 75, R269. -/
  | bit6L
  /-- `BIT 6,(HL)`: CB 76, R269. -/
  | bit6MemHl
  /-- `BIT 6,A`: CB 77, R269. -/
  | bit6A
  /-- `BIT 7,B`: CB 78, R269. -/
  | bit7B
  /-- `BIT 7,C`: CB 79, R269. -/
  | bit7C
  /-- `BIT 7,D`: CB 7A, R269. -/
  | bit7D
  /-- `BIT 7,E`: CB 7B, R269. -/
  | bit7E
  /-- `BIT 7,H`: CB 7C, R269. -/
  | bit7H
  /-- `BIT 7,L`: CB 7D, R269. -/
  | bit7L
  /-- `BIT 7,(HL)`: CB 7E, R269. -/
  | bit7MemHl
  /-- `BIT 7,A`: CB 7F, R269. -/
  | bit7A
  /-- `RES 0,B`: CB 80, R270. -/
  | res0B
  /-- `RES 0,C`: CB 81, R270. -/
  | res0C
  /-- `RES 0,D`: CB 82, R270. -/
  | res0D
  /-- `RES 0,E`: CB 83, R270. -/
  | res0E
  /-- `RES 0,H`: CB 84, R270. -/
  | res0H
  /-- `RES 0,L`: CB 85, R270. -/
  | res0L
  /-- `RES 0,(HL)`: CB 86, R270. -/
  | res0MemHl
  /-- `RES 0,A`: CB 87, R270. -/
  | res0A
  /-- `RES 1,B`: CB 88, R270. -/
  | res1B
  /-- `RES 1,C`: CB 89, R270. -/
  | res1C
  /-- `RES 1,D`: CB 8A, R270. -/
  | res1D
  /-- `RES 1,E`: CB 8B, R270. -/
  | res1E
  /-- `RES 1,H`: CB 8C, R270. -/
  | res1H
  /-- `RES 1,L`: CB 8D, R270. -/
  | res1L
  /-- `RES 1,(HL)`: CB 8E, R270. -/
  | res1MemHl
  /-- `RES 1,A`: CB 8F, R270. -/
  | res1A
  /-- `RES 2,B`: CB 90, R270. -/
  | res2B
  /-- `RES 2,C`: CB 91, R270. -/
  | res2C
  /-- `RES 2,D`: CB 92, R270. -/
  | res2D
  /-- `RES 2,E`: CB 93, R270. -/
  | res2E
  /-- `RES 2,H`: CB 94, R270. -/
  | res2H
  /-- `RES 2,L`: CB 95, R270. -/
  | res2L
  /-- `RES 2,(HL)`: CB 96, R270. -/
  | res2MemHl
  /-- `RES 2,A`: CB 97, R270. -/
  | res2A
  /-- `RES 3,B`: CB 98, R270. -/
  | res3B
  /-- `RES 3,C`: CB 99, R270. -/
  | res3C
  /-- `RES 3,D`: CB 9A, R270. -/
  | res3D
  /-- `RES 3,E`: CB 9B, R270. -/
  | res3E
  /-- `RES 3,H`: CB 9C, R270. -/
  | res3H
  /-- `RES 3,L`: CB 9D, R270. -/
  | res3L
  /-- `RES 3,(HL)`: CB 9E, R270. -/
  | res3MemHl
  /-- `RES 3,A`: CB 9F, R270. -/
  | res3A
  /-- `RES 4,B`: CB A0, R270. -/
  | res4B
  /-- `RES 4,C`: CB A1, R270. -/
  | res4C
  /-- `RES 4,D`: CB A2, R270. -/
  | res4D
  /-- `RES 4,E`: CB A3, R270. -/
  | res4E
  /-- `RES 4,H`: CB A4, R270. -/
  | res4H
  /-- `RES 4,L`: CB A5, R270. -/
  | res4L
  /-- `RES 4,(HL)`: CB A6, R270. -/
  | res4MemHl
  /-- `RES 4,A`: CB A7, R270. -/
  | res4A
  /-- `RES 5,B`: CB A8, R270. -/
  | res5B
  /-- `RES 5,C`: CB A9, R270. -/
  | res5C
  /-- `RES 5,D`: CB AA, R270. -/
  | res5D
  /-- `RES 5,E`: CB AB, R270. -/
  | res5E
  /-- `RES 5,H`: CB AC, R270. -/
  | res5H
  /-- `RES 5,L`: CB AD, R270. -/
  | res5L
  /-- `RES 5,(HL)`: CB AE, R270. -/
  | res5MemHl
  /-- `RES 5,A`: CB AF, R270. -/
  | res5A
  /-- `RES 6,B`: CB B0, R270. -/
  | res6B
  /-- `RES 6,C`: CB B1, R270. -/
  | res6C
  /-- `RES 6,D`: CB B2, R270. -/
  | res6D
  /-- `RES 6,E`: CB B3, R270. -/
  | res6E
  /-- `RES 6,H`: CB B4, R270. -/
  | res6H
  /-- `RES 6,L`: CB B5, R270. -/
  | res6L
  /-- `RES 6,(HL)`: CB B6, R270. -/
  | res6MemHl
  /-- `RES 6,A`: CB B7, R270. -/
  | res6A
  /-- `RES 7,B`: CB B8, R270. -/
  | res7B
  /-- `RES 7,C`: CB B9, R270. -/
  | res7C
  /-- `RES 7,D`: CB BA, R270. -/
  | res7D
  /-- `RES 7,E`: CB BB, R270. -/
  | res7E
  /-- `RES 7,H`: CB BC, R270. -/
  | res7H
  /-- `RES 7,L`: CB BD, R270. -/
  | res7L
  /-- `RES 7,(HL)`: CB BE, R270. -/
  | res7MemHl
  /-- `RES 7,A`: CB BF, R270. -/
  | res7A
  /-- `SET 0,B`: CB C0, R271. -/
  | set0B
  /-- `SET 0,C`: CB C1, R271. -/
  | set0C
  /-- `SET 0,D`: CB C2, R271. -/
  | set0D
  /-- `SET 0,E`: CB C3, R271. -/
  | set0E
  /-- `SET 0,H`: CB C4, R271. -/
  | set0H
  /-- `SET 0,L`: CB C5, R271. -/
  | set0L
  /-- `SET 0,(HL)`: CB C6, R271. -/
  | set0MemHl
  /-- `SET 0,A`: CB C7, R271. -/
  | set0A
  /-- `SET 1,B`: CB C8, R271. -/
  | set1B
  /-- `SET 1,C`: CB C9, R271. -/
  | set1C
  /-- `SET 1,D`: CB CA, R271. -/
  | set1D
  /-- `SET 1,E`: CB CB, R271. -/
  | set1E
  /-- `SET 1,H`: CB CC, R271. -/
  | set1H
  /-- `SET 1,L`: CB CD, R271. -/
  | set1L
  /-- `SET 1,(HL)`: CB CE, R271. -/
  | set1MemHl
  /-- `SET 1,A`: CB CF, R271. -/
  | set1A
  /-- `SET 2,B`: CB D0, R271. -/
  | set2B
  /-- `SET 2,C`: CB D1, R271. -/
  | set2C
  /-- `SET 2,D`: CB D2, R271. -/
  | set2D
  /-- `SET 2,E`: CB D3, R271. -/
  | set2E
  /-- `SET 2,H`: CB D4, R271. -/
  | set2H
  /-- `SET 2,L`: CB D5, R271. -/
  | set2L
  /-- `SET 2,(HL)`: CB D6, R271. -/
  | set2MemHl
  /-- `SET 2,A`: CB D7, R271. -/
  | set2A
  /-- `SET 3,B`: CB D8, R271. -/
  | set3B
  /-- `SET 3,C`: CB D9, R271. -/
  | set3C
  /-- `SET 3,D`: CB DA, R271. -/
  | set3D
  /-- `SET 3,E`: CB DB, R271. -/
  | set3E
  /-- `SET 3,H`: CB DC, R271. -/
  | set3H
  /-- `SET 3,L`: CB DD, R271. -/
  | set3L
  /-- `SET 3,(HL)`: CB DE, R271. -/
  | set3MemHl
  /-- `SET 3,A`: CB DF, R271. -/
  | set3A
  /-- `SET 4,B`: CB E0, R271. -/
  | set4B
  /-- `SET 4,C`: CB E1, R271. -/
  | set4C
  /-- `SET 4,D`: CB E2, R271. -/
  | set4D
  /-- `SET 4,E`: CB E3, R271. -/
  | set4E
  /-- `SET 4,H`: CB E4, R271. -/
  | set4H
  /-- `SET 4,L`: CB E5, R271. -/
  | set4L
  /-- `SET 4,(HL)`: CB E6, R271. -/
  | set4MemHl
  /-- `SET 4,A`: CB E7, R271. -/
  | set4A
  /-- `SET 5,B`: CB E8, R271. -/
  | set5B
  /-- `SET 5,C`: CB E9, R271. -/
  | set5C
  /-- `SET 5,D`: CB EA, R271. -/
  | set5D
  /-- `SET 5,E`: CB EB, R271. -/
  | set5E
  /-- `SET 5,H`: CB EC, R271. -/
  | set5H
  /-- `SET 5,L`: CB ED, R271. -/
  | set5L
  /-- `SET 5,(HL)`: CB EE, R271. -/
  | set5MemHl
  /-- `SET 5,A`: CB EF, R271. -/
  | set5A
  /-- `SET 6,B`: CB F0, R271. -/
  | set6B
  /-- `SET 6,C`: CB F1, R271. -/
  | set6C
  /-- `SET 6,D`: CB F2, R271. -/
  | set6D
  /-- `SET 6,E`: CB F3, R271. -/
  | set6E
  /-- `SET 6,H`: CB F4, R271. -/
  | set6H
  /-- `SET 6,L`: CB F5, R271. -/
  | set6L
  /-- `SET 6,(HL)`: CB F6, R271. -/
  | set6MemHl
  /-- `SET 6,A`: CB F7, R271. -/
  | set6A
  /-- `SET 7,B`: CB F8, R271. -/
  | set7B
  /-- `SET 7,C`: CB F9, R271. -/
  | set7C
  /-- `SET 7,D`: CB FA, R271. -/
  | set7D
  /-- `SET 7,E`: CB FB, R271. -/
  | set7E
  /-- `SET 7,H`: CB FC, R271. -/
  | set7H
  /-- `SET 7,L`: CB FD, R271. -/
  | set7L
  /-- `SET 7,(HL)`: CB FE, R271. -/
  | set7MemHl
  /-- `SET 7,A`: CB FF, R271. -/
  | set7A
  deriving DecidableEq, Repr

end Sys2Proof
end

