-- ==== Sys2Proof/Config.lean ====
section
/-! DEFINITION. The parameters of spec/00_scope.md R7 that select what the core runs. They are fixed for a machine; the
model carries them as the plain data `State.cfg` (DESIGN CHOICE, log 3). The fourth parameter, `INIT`, is the argument of
`Machine.resetTo`. The hardware has no free value (R121, R316), so this file declares no constant without a body. -/

namespace Sys2Proof

/-- `PROFILE` (R7, D1): full semantics, or the four acknowledged gaps of the source kept. -/
inductive Profile where
  | completed
  | asBuilt
  deriving DecidableEq, Repr

/-- `TABLE` (R7, D2): which rows of the two opcode tables decode. -/
inductive Table where
  | tSrc
  | tMin
  | tFull
  deriving DecidableEq, Repr

/-- The configuration of one machine. `addImpl` is `ADD_IMPL` (R7, D3), the Add selectors that add under `asBuilt`. -/
structure Config where
  profile : Profile
  table : Table
  addImpl : List Reg8
  deriving DecidableEq, Repr

/-- The spec's default configuration (R7, R8). -/
def Config.default : Config :=
  { profile := .completed, table := .tFull, addImpl := [.a, .b, .c, .d, .e, .h, .l] }

end Sys2Proof
end

