-- ==== Sys2Proof/Machine/State.lean ====
section
/-! DEFINITION. The state of the core (spec/10_state.md R20 "and nothing else"), plain data, with the model's own field
`cfg` (DESIGN CHOICE, log 3); the reasons a step could stop; the state after reset. -/

namespace Sys2Proof.Machine

/-- `f`, four independent booleans (R22). Bits 3 to 0 of the flags byte are not state. -/
structure Flags where
  z : Bool
  n : Bool
  h : Bool
  c : Bool
  deriving DecidableEq, Repr

/-- The record of an illegal opcode (R32, R302). -/
structure HaltRecord where
  opcode : Byte
  prefixed : Bool
  addr : Word
  deriving DecidableEq, Repr

/-- `mem` (R34): address and byte pairs in one canonical form, `Memory.wf` of Ops.lean. An address not listed reads as
`unlistedByte`. -/
abbrev Memory := List Host.Cell

/-- What an address that memory does not list reads as: 0x00, the unset bytes of `INIT_MEM` (R37; DESIGN CHOICE, log 1). -/
def unlistedByte : Byte := 0x00

/-- The whole state (R20): seven general registers (R21), the flags (R22), `pc` (R30), `sp` (R29), the halt latch (R32),
memory (R34); and the configuration (R7), which nothing changes (DESIGN CHOICE, log 3). -/
structure State where
  a : Byte
  b : Byte
  c : Byte
  d : Byte
  e : Byte
  h : Byte
  l : Byte
  f : Flags
  pc : Word
  sp : Word
  halted : Option HaltRecord
  mem : Memory
  cfg : Config
  deriving DecidableEq, Repr

/-- The reasons a step could stop with a fault. There is none: arithmetic raises nothing (R316), memory raises nothing
(R317), and the one exception, IllegalOpcode, is a next state with the halt latch set (R301). An empty type is that
reading, raised by nobody; unsafe if the spec named such a stop (DEDUCED, log 11). -/
inductive Fault where
  deriving DecidableEq, Repr

/-- The reasons a step could be refused. -/
inductive Refusal where
  /-- Raised by an arm of `exec` whose instruction has no meaning yet; no arm raises it. Safe. -/
  | notModelled (mnemonic : String)
  deriving DecidableEq, Repr

/-- What a meaning answers. -/
abbrev Result := Host.Outcome State Fault Refusal

/-- The state after reset: the default `INIT` of R37 with no byte loaded, under the default configuration of R8
(DESIGN CHOICE, log 1, log 2, log 3). -/
def State.reset : State :=
  { a := 0x00, b := 0x00, c := 0x00, d := 0x00, e := 0x00, h := 0x00, l := 0x00
    f := { z := false, n := false, h := false, c := false }
    pc := 0x0000
    sp := 0x0000
    halted := none
    mem := []
    cfg := Config.default }

end Sys2Proof.Machine
end

