-- ==== Sys2Proof/Machine/Flags.lean ====
section
/-! DEFINITION. The flags byte (spec/10_state.md R23, R24) and every result and flag computation of files 41 to 47. The
carry in `c` is 1 when `flag.c` was set before the instruction (R200). Sums are on unbounded integers (R10). -/

namespace Sys2Proof.Machine

/-- `encode(f)` (R23). -/
def encodeFlags (f : Flags) : Byte :=
  BitVec.ofNat 8 (f.z.toNat * 0x80 + f.n.toNat * 0x40 + f.h.toNat * 0x20 + f.c.toNat * 0x10)

/-- `decode(b)` (R24); bits 3 to 0 are ignored. -/
def decodeFlags (b : Byte) : Flags :=
  { z := b.getLsbD 7, n := b.getLsbD 6, h := b.getLsbD 5, c := b.getLsbD 4 }

/-- A condition against the flags (R133). -/
def condHolds (cc : Cond) (f : Flags) : Bool :=
  match cc with
  | .notZero => !f.z
  | .zero => f.z
  | .notCarry => !f.c
  | .carry => f.c
  | .always => true

/-- `a + v + c` on unbounded integers. -/
def addSum (a v : Byte) (c : Bool) : Nat := a.toNat + v.toNat + c.toNat

/-- The result of ADD and ADC (R130, R202). -/
def addByte (a v : Byte) (c : Bool) : Byte := BitVec.ofNat 8 (addSum a v c)

/-- The flags of ADD and ADC (R130, R202). -/
def addFlags (a v : Byte) (c : Bool) : Flags :=
  { z := addByte a v c == 0
    n := false
    h := decide (lo4 a + lo4 v + c.toNat > 0xF)
    c := decide (addSum a v c > 0xFF) }

/-- The result of SUB, SBC and CP: `(a - v - c) mod 256` (R203, R204, R208). -/
def subByte (a v : Byte) (c : Bool) : Byte := a - v - bitByte c

/-- The flags of SUB, SBC and CP, both comparisons on unbounded integers (R203, R204, R208). -/
def subFlags (a v : Byte) (c : Bool) : Flags :=
  { z := subByte a v c == 0
    n := true
    h := decide (lo4 a < lo4 v + c.toNat)
    c := decide (a.toNat < v.toNat + c.toNat) }

/-- The flags of AND, XOR and OR; only AND sets H (R205, R206, R207). -/
def logicFlags (res : Byte) (h : Bool) : Flags := { z := res == 0, n := false, h := h, c := false }

/-- The flags of `INC r`; C is kept (R209). -/
def incFlags (f : Flags) (v : Byte) : Flags :=
  { z := v + 1 == 0, n := false, h := decide (lo4 v = 0xF), c := f.c }

/-- The flags of `DEC r`; C is kept (R210). -/
def decFlags (f : Flags) (v : Byte) : Flags :=
  { z := v - 1 == 0, n := true, h := decide (lo4 v = 0x0), c := f.c }

/-- The flags of `ADD HL,rr`; Z is kept, H is the carry out of bit 11, C out of bit 15 (R230). -/
def addHlFlags (f : Flags) (hl v : Word) : Flags :=
  { z := f.z
    n := false
    h := decide (hl.toNat % 0x1000 + v.toNat % 0x1000 > 0x0FFF)
    c := decide (hl.toNat + v.toNat > 0xFFFF) }

/-- The flags of `ADD SP,d` and `LD HL,SP+d`: the unsigned addition of the low byte of `sp` and the byte `d` (R183, R232). -/
def spDispFlags (sp : Word) (d : Byte) : Flags :=
  { z := false
    n := false
    h := decide (sp.toNat % 0x10 + lo4 d > 0xF)
    c := decide (sp.toNat % 0x100 + d.toNat > 0xFF) }

/-- The result of a rotate or shift by one position (R132, R241 to R244, R262 to R268). -/
def rotByte (op : RotOp) (v : Byte) (c : Bool) : Byte :=
  match op with
  | .rlc => (v <<< 1) ||| bitByte (v.getLsbD 7)
  | .rrc => (v >>> 1) ||| (bitByte (v.getLsbD 0) <<< 7)
  | .rl => (v <<< 1) ||| bitByte c
  | .rr => (v >>> 1) ||| (bitByte c <<< 7)
  | .sla => v <<< 1
  | .sra => (v >>> 1) ||| (v &&& 0x80)
  | .swap => (v <<< 4) ||| (v >>> 4)
  | .srl => v >>> 1

/-- The carry of a rotate or shift: the bit that left the byte; SWAP clears it (R267). -/
def rotCarry (op : RotOp) (v : Byte) : Bool :=
  match op with
  | .rlc => v.getLsbD 7
  | .rrc => v.getLsbD 0
  | .rl => v.getLsbD 7
  | .rr => v.getLsbD 0
  | .sla => v.getLsbD 7
  | .sra => v.getLsbD 0
  | .swap => false
  | .srl => v.getLsbD 0

/-- The flags of a prefixed rotate or shift (R132, R261 to R268). -/
def rotFlags (op : RotOp) (v : Byte) (c : Bool) : Flags :=
  { z := rotByte op v c == 0, n := false, h := false, c := rotCarry op v }

/-- The flags of RLCA, RRCA, RLA, RRA: Z is always cleared (R241 to R244). -/
def rotAFlags (op : RotOp) (v : Byte) : Flags := { z := false, n := false, h := false, c := rotCarry op v }

/-- The flags of BIT; C is kept (R269). -/
def bitFlags (f : Flags) (v : Byte) (b : Fin 8) : Flags :=
  { z := !v.getLsbD b, n := false, h := true, c := f.c }

/-- The result of DAA (R245). -/
def daaByte (a : Byte) (f : Flags) : Byte :=
  if f.n then
    let a1 := if f.c then a - 0x60 else a
    if f.h then a1 - 0x06 else a1
  else
    let a1 := if f.c || decide (a.toNat > 0x99) then a + 0x60 else a
    if f.h || decide (lo4 a1 > 0x9) then a1 + 0x06 else a1

/-- The flags of DAA: N is kept, H cleared, C set if the 0x60 adjustment was added, else kept (R245). -/
def daaFlags (a : Byte) (f : Flags) : Flags :=
  { z := daaByte a f == 0
    n := f.n
    h := false
    c := f.c || (!f.n && decide (a.toNat > 0x99)) }

end Sys2Proof.Machine
end

