-- ==== Sys2Proof/Machine/Ops.lean ====
section
/-! DEFINITION. The named operations over registers and memory (spec/10_state.md, spec/20_memory.md), the commit of `pc`,
the stack, taking the one exception, and reset, the only way out of it. -/

namespace Sys2Proof.Machine

/-! ## Memory -/

/-- The canonical form: addresses strictly rising and inside the space (R50), no entry equal to the unlisted byte. -/
abbrev Memory.wf (m : Memory) : Prop :=
  m.Pairwise (fun x y => x.1 < y.1) ∧ ∀ x ∈ m, x.1 < 0x10000 ∧ x.2 ≠ unlistedByte

/-- The byte listed at an address, or the unlisted byte. -/
def Memory.byteAt : Memory → Nat → Byte
  | [], _ => unlistedByte
  | (k, v) :: m, a => if k = a then v else Memory.byteAt m a

/-- Puts an entry before the first larger address. -/
def Memory.insertCell : Memory → Nat → Byte → Memory
  | [], a, v => [(a, v)]
  | (k, w) :: m, a, v => if a < k then (a, v) :: (k, w) :: m else (k, w) :: Memory.insertCell m a v

/-- Removes every entry of an address. -/
def Memory.erase (m : Memory) (a : Nat) : Memory := m.filter (fun x => x.1 != a)

/-- `MemRead(addr, 1)` (R52): every address is plain memory (R51) and a read changes nothing. -/
def Memory.read (m : Memory) (a : Word) : Byte := Memory.byteAt m a.toNat

/-- `MemWrite(addr, 1, v)` (R53). Writing the unlisted byte removes the entry. -/
def Memory.write (m : Memory) (a : Word) (v : Byte) : Memory :=
  if v = unlistedByte then Memory.erase m a.toNat else Memory.insertCell (Memory.erase m a.toNat) a.toNat v

/-- `MemRead(addr, 1)` in a state. -/
def State.load8 (s : State) (a : Word) : Byte := Memory.read s.mem a

/-- `MemRead(addr, 2)`: low byte at `addr`, high byte at `addr +16 1` (R54, R56). -/
def State.load16 (s : State) (a : Word) : Word := join (s.load8 (a + 1)) (s.load8 a)

/-- `MemWrite(addr, 1, v)` in a state. -/
def State.store8 (s : State) (a : Word) (v : Byte) : State := { s with mem := Memory.write s.mem a v }

/-- `MemWrite(addr, 2, v)`: low byte first, then the high byte at `addr +16 1` (R55, R56). -/
def State.store16 (s : State) (a v : Word) : State := (s.store8 a (lo8 v)).store8 (a + 1) (hi8 v)

/-- The loader's placing of consecutive bytes, wrapping (R56, R330). -/
def State.storeBytes (s : State) (a : Word) : List Byte → State
  | [] => s
  | v :: vs => (s.store8 a v).storeBytes (a + 1) vs

/-! ## Registers -/

/-- `x[r]` (R11, R21). -/
def State.reg (s : State) : Reg8 → Byte
  | .a => s.a
  | .b => s.b
  | .c => s.c
  | .d => s.d
  | .e => s.e
  | .h => s.h
  | .l => s.l

/-- `x[r] <- v` (R11, R21). -/
def State.setReg (s : State) (r : Reg8) (v : Byte) : State :=
  match r with
  | .a => { s with a := v }
  | .b => { s with b := v }
  | .c => { s with c := v }
  | .d => { s with d := v }
  | .e => { s with e := v }
  | .h => { s with h := v }
  | .l => { s with l := v }

/-- `x[F]` (R11, R23). -/
def State.readF (s : State) : Byte := encodeFlags s.f

/-- `x[F] <- v` (R11, R24). -/
def State.writeF (s : State) (v : Byte) : State := { s with f := decodeFlags v }

/-- Writes all four flags. -/
def State.setFlags (s : State) (f : Flags) : State := { s with f := f }

/-- `xp[rr]` (R26, R27, R29): a pair is a view of its two registers, high register first. -/
def State.pair (s : State) : Reg16 → Word
  | .bc => join s.b s.c
  | .de => join s.d s.e
  | .hl => join s.h s.l
  | .sp => s.sp
  | .af => join s.a s.readF

/-- `xp[rr] <- v` (R26, R27, R29). -/
def State.setPair (s : State) (rr : Reg16) (v : Word) : State :=
  match rr with
  | .bc => { s with b := hi8 v, c := lo8 v }
  | .de => { s with d := hi8 v, e := lo8 v }
  | .hl => { s with h := hi8 v, l := lo8 v }
  | .sp => { s with sp := v }
  | .af => { s with a := hi8 v, f := decodeFlags (lo8 v) }

/-! ## The commit of pc -/

/-- The commit of a `next_pc` (R116). -/
def State.setPc (s : State) (v : Word) : State := { s with pc := v }

/-- The default `next_pc = pc0 +16 length` (R31, R120). -/
def State.advance (s : State) (len : Word) : State := { s with pc := s.pc + len }

/-! ## The stack -/

/-- `Push16(v)` (R184): high byte at `sp -16 1`, low byte at `sp -16 2`. -/
def State.push16 (s : State) (v : Word) : State :=
  { (s.store8 (s.sp - 1) (hi8 v)).store8 (s.sp - 2) (lo8 v) with sp := s.sp - 2 }

/-- The value `Pop16()` reads (R185): low byte at `sp`, high byte at `sp +16 1`. -/
def State.top16 (s : State) : Word := s.load16 s.sp

/-- The stack pointer after `Pop16()` (R185). -/
def State.drop16 (s : State) : State := { s with sp := s.sp + 2 }

/-! ## The exception and the way out of it -/

/-- `raise IllegalOpcode(op, prefixed, addr)` with `addr = pc0` (R113, R301): the latch is set, `pc` and all else stay. -/
def raiseIllegal (op : Byte) (prefixed : Bool) (s : State) : State :=
  { s with halted := some { opcode := op, prefixed := prefixed, addr := s.pc } }

/-- Reset (R330): the whole state becomes `INIT` and the latch `none`; the configuration is the machine's and stays.
No instruction returns from the exception (R307): this is the only way out. -/
def resetTo (init s : State) : State := { init with halted := none, cfg := s.cfg }

end Sys2Proof.Machine
end

