-- ==== Sys2Proof/Machine/Table.lean ====
section
/-! DEFINITION. What the opcode table says of an instruction beside its bytes: its kind, its tier (spec/00_scope.md R2),
the selector indices of spec/30_encoding.md R90, and which cells a value of TABLE assigns (R91, R92, R95, R96). -/

namespace Sys2Proof

/-- The Instruction in the source's notation: the `kind` of each row of opcode_table.json (R98, R100). -/
def Instr.kind : Instr → Kind
  | .nop => .nop
  | .ldBcNn => .ldPairImm .bc
  | .incBc => .inc .bc
  | .incB => .inc8 (.reg .b)
  | .decB => .dec8 (.reg .b)
  | .ldBN => .ldRegImm .b
  | .rlca => .rlca
  | .ldMemNnSp => .ldMemNnSp
  | .addHlBc => .addHl .bc
  | .ldAMemBc => .ldAMemBc
  | .decBc => .dec16 .bc
  | .incC => .inc8 (.reg .c)
  | .decC => .dec8 (.reg .c)
  | .ldCN => .ldRegImm .c
  | .rrca => .rrca
  | .unknown op => .unknown op
  | .ldDeNn => .ldPairImm .de
  | .ldMemDeA => .ldMemDeA
  | .incDe => .inc .de
  | .incD => .inc8 (.reg .d)
  | .decD => .dec8 (.reg .d)
  | .ldDN => .ldRegImm .d
  | .rla => .rla
  | .jrDisp => .jr .always
  | .addHlDe => .addHl .de
  | .ldAMemDe => .ldAMemDe
  | .decDe => .dec16 .de
  | .incE => .inc8 (.reg .e)
  | .decE => .dec8 (.reg .e)
  | .ldEN => .ldRegImm .e
  | .rra => .rra
  | .jrNzDisp => .jr .notZero
  | .ldHlNn => .ldPairImm .hl
  | .ldMemHliA => .ldMemHliA
  | .incHl => .inc .hl
  | .incH => .inc8 (.reg .h)
  | .decH => .dec8 (.reg .h)
  | .ldHN => .ldRegImm .h
  | .daa => .daa
  | .jrZDisp => .jr .zero
  | .addHlHl => .addHl .hl
  | .ldAMemHli => .ldAMemHli
  | .decHl => .dec16 .hl
  | .incL => .inc8 (.reg .l)
  | .decL => .dec8 (.reg .l)
  | .ldLN => .ldRegImm .l
  | .cpl => .cpl
  | .jrNcDisp => .jr .notCarry
  | .ldSpNn => .ldPairImm .sp
  | .ldMemHldA => .ldMemHldA
  | .incSp => .inc .sp
  | .incMemHl => .inc8 .memHl
  | .decMemHl => .dec8 .memHl
  | .ldMemHlN => .ldMemHlImm
  | .scf => .scf
  | .jrCDisp => .jr .carry
  | .addHlSp => .addHl .sp
  | .ldAMemHld => .ldAMemHld
  | .decSp => .dec16 .sp
  | .incA => .inc8 (.reg .a)
  | .decA => .dec8 (.reg .a)
  | .ldAN => .ldRegImm .a
  | .ccf => .ccf
  | .ldBB => .ldRegReg .b .b
  | .ldBC => .ldRegReg .b .c
  | .ldBD => .ldRegReg .b .d
  | .ldBE => .ldRegReg .b .e
  | .ldBH => .ldRegReg .b .h
  | .ldBL => .ldRegReg .b .l
  | .ldBMemHl => .ldRegMemHl .b
  | .ldBA => .ldRegReg .b .a
  | .ldCB => .ldRegReg .c .b
  | .ldCC => .ldRegReg .c .c
  | .ldCD => .ldRegReg .c .d
  | .ldCE => .ldRegReg .c .e
  | .ldCH => .ldRegReg .c .h
  | .ldCL => .ldRegReg .c .l
  | .ldCMemHl => .ldRegMemHl .c
  | .ldCA => .ldRegReg .c .a
  | .ldDB => .ldRegReg .d .b
  | .ldDC => .ldRegReg .d .c
  | .ldDD => .ldRegReg .d .d
  | .ldDE => .ldRegReg .d .e
  | .ldDH => .ldRegReg .d .h
  | .ldDL => .ldRegReg .d .l
  | .ldDMemHl => .ldRegMemHl .d
  | .ldDA => .ldRegReg .d .a
  | .ldEB => .ldRegReg .e .b
  | .ldEC => .ldRegReg .e .c
  | .ldED => .ldRegReg .e .d
  | .ldEE => .ldRegReg .e .e
  | .ldEH => .ldRegReg .e .h
  | .ldEL => .ldRegReg .e .l
  | .ldEMemHl => .ldRegMemHl .e
  | .ldEA => .ldRegReg .e .a
  | .ldHB => .ldRegReg .h .b
  | .ldHC => .ldRegReg .h .c
  | .ldHD => .ldRegReg .h .d
  | .ldHE => .ldRegReg .h .e
  | .ldHH => .ldRegReg .h .h
  | .ldHL => .ldRegReg .h .l
  | .ldHMemHl => .ldRegMemHl .h
  | .ldHA => .ldRegReg .h .a
  | .ldLB => .ldRegReg .l .b
  | .ldLC => .ldRegReg .l .c
  | .ldLD => .ldRegReg .l .d
  | .ldLE => .ldRegReg .l .e
  | .ldLH => .ldRegReg .l .h
  | .ldLL => .ldRegReg .l .l
  | .ldLMemHl => .ldRegMemHl .l
  | .ldLA => .ldRegReg .l .a
  | .ldMemHlB => .ldMemHlReg .b
  | .ldMemHlC => .ldMemHlReg .c
  | .ldMemHlD => .ldMemHlReg .d
  | .ldMemHlE => .ldMemHlReg .e
  | .ldMemHlH => .ldMemHlReg .h
  | .ldMemHlL => .ldMemHlReg .l
  | .ldMemHlA => .ldMemHlReg .a
  | .ldAB => .ldRegReg .a .b
  | .ldAC => .ldRegReg .a .c
  | .ldAD => .ldRegReg .a .d
  | .ldAE => .ldRegReg .a .e
  | .ldAH => .ldRegReg .a .h
  | .ldAL => .ldRegReg .a .l
  | .ldAMemHl => .ldRegMemHl .a
  | .ldAA => .ldRegReg .a .a
  | .addAB => .alu .add (.reg .b)
  | .addAC => .alu .add (.reg .c)
  | .addAD => .alu .add (.reg .d)
  | .addAE => .alu .add (.reg .e)
  | .addAH => .alu .add (.reg .h)
  | .addAL => .alu .add (.reg .l)
  | .addAMemHl => .alu .add .memHl
  | .addAA => .alu .add (.reg .a)
  | .adcAB => .alu .adc (.reg .b)
  | .adcAC => .alu .adc (.reg .c)
  | .adcAD => .alu .adc (.reg .d)
  | .adcAE => .alu .adc (.reg .e)
  | .adcAH => .alu .adc (.reg .h)
  | .adcAL => .alu .adc (.reg .l)
  | .adcAMemHl => .alu .adc .memHl
  | .adcAA => .alu .adc (.reg .a)
  | .subAB => .alu .sub (.reg .b)
  | .subAC => .alu .sub (.reg .c)
  | .subAD => .alu .sub (.reg .d)
  | .subAE => .alu .sub (.reg .e)
  | .subAH => .alu .sub (.reg .h)
  | .subAL => .alu .sub (.reg .l)
  | .subAMemHl => .alu .sub .memHl
  | .subAA => .alu .sub (.reg .a)
  | .sbcAB => .alu .sbc (.reg .b)
  | .sbcAC => .alu .sbc (.reg .c)
  | .sbcAD => .alu .sbc (.reg .d)
  | .sbcAE => .alu .sbc (.reg .e)
  | .sbcAH => .alu .sbc (.reg .h)
  | .sbcAL => .alu .sbc (.reg .l)
  | .sbcAMemHl => .alu .sbc .memHl
  | .sbcAA => .alu .sbc (.reg .a)
  | .andAB => .alu .and (.reg .b)
  | .andAC => .alu .and (.reg .c)
  | .andAD => .alu .and (.reg .d)
  | .andAE => .alu .and (.reg .e)
  | .andAH => .alu .and (.reg .h)
  | .andAL => .alu .and (.reg .l)
  | .andAMemHl => .alu .and .memHl
  | .andAA => .alu .and (.reg .a)
  | .xorAB => .alu .xor (.reg .b)
  | .xorAC => .alu .xor (.reg .c)
  | .xorAD => .alu .xor (.reg .d)
  | .xorAE => .alu .xor (.reg .e)
  | .xorAH => .alu .xor (.reg .h)
  | .xorAL => .alu .xor (.reg .l)
  | .xorAMemHl => .alu .xor .memHl
  | .xorAA => .alu .xor (.reg .a)
  | .orAB => .alu .or (.reg .b)
  | .orAC => .alu .or (.reg .c)
  | .orAD => .alu .or (.reg .d)
  | .orAE => .alu .or (.reg .e)
  | .orAH => .alu .or (.reg .h)
  | .orAL => .alu .or (.reg .l)
  | .orAMemHl => .alu .or .memHl
  | .orAA => .alu .or (.reg .a)
  | .cpAB => .alu .cp (.reg .b)
  | .cpAC => .alu .cp (.reg .c)
  | .cpAD => .alu .cp (.reg .d)
  | .cpAE => .alu .cp (.reg .e)
  | .cpAH => .alu .cp (.reg .h)
  | .cpAL => .alu .cp (.reg .l)
  | .cpAMemHl => .alu .cp .memHl
  | .cpAA => .alu .cp (.reg .a)
  | .retNz => .ret .notZero
  | .popBc => .pop .bc
  | .jpNzNn => .jp .notZero
  | .jpNn => .jp .always
  | .callNzNn => .call .notZero
  | .pushBc => .push .bc
  | .addAN => .alu .add .imm
  | .rst00H => .rst 0
  | .retZ => .ret .zero
  | .ret => .ret .always
  | .jpZNn => .jp .zero
  | .prefixCB op2 => .marker op2
  | .callZNn => .call .zero
  | .callNn => .call .always
  | .adcAN => .alu .adc .imm
  | .rst08H => .rst 1
  | .retNc => .ret .notCarry
  | .popDe => .pop .de
  | .jpNcNn => .jp .notCarry
  | .callNcNn => .call .notCarry
  | .pushDe => .push .de
  | .subAN => .alu .sub .imm
  | .rst10H => .rst 2
  | .retC => .ret .carry
  | .jpCNn => .jp .carry
  | .callCNn => .call .carry
  | .sbcAN => .alu .sbc .imm
  | .rst18H => .rst 3
  | .ldhMemNA => .ldhMemNA
  | .popHl => .pop .hl
  | .ldMemCA => .ldMemCA
  | .pushHl => .push .hl
  | .andAN => .alu .and .imm
  | .rst20H => .rst 4
  | .addSpDisp => .addSpDisp
  | .jpHl => .jpHl
  | .ldMemNnA => .ldMemNnA
  | .xorAN => .alu .xor .imm
  | .rst28H => .rst 5
  | .ldhAMemN => .ldhAMemN
  | .popAf => .pop .af
  | .ldAMemC => .ldAMemC
  | .pushAf => .push .af
  | .orAN => .alu .or .imm
  | .rst30H => .rst 6
  | .ldHlSpDisp => .ldHlSpDisp
  | .ldSpHl => .ldSpHl
  | .ldAMemNn => .ldAMemNn
  | .cpAN => .alu .cp .imm
  | .rlcB => .cb (.rot .rlc) (.reg .b)
  | .rlcC => .cb (.rot .rlc) (.reg .c)
  | .rlcD => .cb (.rot .rlc) (.reg .d)
  | .rlcE => .cb (.rot .rlc) (.reg .e)
  | .rlcH => .cb (.rot .rlc) (.reg .h)
  | .rlcL => .cb (.rot .rlc) (.reg .l)
  | .rlcMemHl => .cb (.rot .rlc) .memHl
  | .rlcA => .cb (.rot .rlc) (.reg .a)
  | .rrcB => .cb (.rot .rrc) (.reg .b)
  | .rrcC => .cb (.rot .rrc) (.reg .c)
  | .rrcD => .cb (.rot .rrc) (.reg .d)
  | .rrcE => .cb (.rot .rrc) (.reg .e)
  | .rrcH => .cb (.rot .rrc) (.reg .h)
  | .rrcL => .cb (.rot .rrc) (.reg .l)
  | .rrcMemHl => .cb (.rot .rrc) .memHl
  | .rrcA => .cb (.rot .rrc) (.reg .a)
  | .rlB => .cb (.rot .rl) (.reg .b)
  | .rlC => .cb (.rot .rl) (.reg .c)
  | .rlD => .cb (.rot .rl) (.reg .d)
  | .rlE => .cb (.rot .rl) (.reg .e)
  | .rlH => .cb (.rot .rl) (.reg .h)
  | .rlL => .cb (.rot .rl) (.reg .l)
  | .rlMemHl => .cb (.rot .rl) .memHl
  | .rlA => .cb (.rot .rl) (.reg .a)
  | .rrB => .cb (.rot .rr) (.reg .b)
  | .rrC => .cb (.rot .rr) (.reg .c)
  | .rrD => .cb (.rot .rr) (.reg .d)
  | .rrE => .cb (.rot .rr) (.reg .e)
  | .rrH => .cb (.rot .rr) (.reg .h)
  | .rrL => .cb (.rot .rr) (.reg .l)
  | .rrMemHl => .cb (.rot .rr) .memHl
  | .rrA => .cb (.rot .rr) (.reg .a)
  | .slaB => .cb (.rot .sla) (.reg .b)
  | .slaC => .cb (.rot .sla) (.reg .c)
  | .slaD => .cb (.rot .sla) (.reg .d)
  | .slaE => .cb (.rot .sla) (.reg .e)
  | .slaH => .cb (.rot .sla) (.reg .h)
  | .slaL => .cb (.rot .sla) (.reg .l)
  | .slaMemHl => .cb (.rot .sla) .memHl
  | .slaA => .cb (.rot .sla) (.reg .a)
  | .sraB => .cb (.rot .sra) (.reg .b)
  | .sraC => .cb (.rot .sra) (.reg .c)
  | .sraD => .cb (.rot .sra) (.reg .d)
  | .sraE => .cb (.rot .sra) (.reg .e)
  | .sraH => .cb (.rot .sra) (.reg .h)
  | .sraL => .cb (.rot .sra) (.reg .l)
  | .sraMemHl => .cb (.rot .sra) .memHl
  | .sraA => .cb (.rot .sra) (.reg .a)
  | .swapB => .cb (.rot .swap) (.reg .b)
  | .swapC => .cb (.rot .swap) (.reg .c)
  | .swapD => .cb (.rot .swap) (.reg .d)
  | .swapE => .cb (.rot .swap) (.reg .e)
  | .swapH => .cb (.rot .swap) (.reg .h)
  | .swapL => .cb (.rot .swap) (.reg .l)
  | .swapMemHl => .cb (.rot .swap) .memHl
  | .swapA => .cb (.rot .swap) (.reg .a)
  | .srlB => .cb (.rot .srl) (.reg .b)
  | .srlC => .cb (.rot .srl) (.reg .c)
  | .srlD => .cb (.rot .srl) (.reg .d)
  | .srlE => .cb (.rot .srl) (.reg .e)
  | .srlH => .cb (.rot .srl) (.reg .h)
  | .srlL => .cb (.rot .srl) (.reg .l)
  | .srlMemHl => .cb (.rot .srl) .memHl
  | .srlA => .cb (.rot .srl) (.reg .a)
  | .bit0B => .cb (.bit 0) (.reg .b)
  | .bit0C => .cb (.bit 0) (.reg .c)
  | .bit0D => .cb (.bit 0) (.reg .d)
  | .bit0E => .cb (.bit 0) (.reg .e)
  | .bit0H => .cb (.bit 0) (.reg .h)
  | .bit0L => .cb (.bit 0) (.reg .l)
  | .bit0MemHl => .cb (.bit 0) .memHl
  | .bit0A => .cb (.bit 0) (.reg .a)
  | .bit1B => .cb (.bit 1) (.reg .b)
  | .bit1C => .cb (.bit 1) (.reg .c)
  | .bit1D => .cb (.bit 1) (.reg .d)
  | .bit1E => .cb (.bit 1) (.reg .e)
  | .bit1H => .cb (.bit 1) (.reg .h)
  | .bit1L => .cb (.bit 1) (.reg .l)
  | .bit1MemHl => .cb (.bit 1) .memHl
  | .bit1A => .cb (.bit 1) (.reg .a)
  | .bit2B => .cb (.bit 2) (.reg .b)
  | .bit2C => .cb (.bit 2) (.reg .c)
  | .bit2D => .cb (.bit 2) (.reg .d)
  | .bit2E => .cb (.bit 2) (.reg .e)
  | .bit2H => .cb (.bit 2) (.reg .h)
  | .bit2L => .cb (.bit 2) (.reg .l)
  | .bit2MemHl => .cb (.bit 2) .memHl
  | .bit2A => .cb (.bit 2) (.reg .a)
  | .bit3B => .cb (.bit 3) (.reg .b)
  | .bit3C => .cb (.bit 3) (.reg .c)
  | .bit3D => .cb (.bit 3) (.reg .d)
  | .bit3E => .cb (.bit 3) (.reg .e)
  | .bit3H => .cb (.bit 3) (.reg .h)
  | .bit3L => .cb (.bit 3) (.reg .l)
  | .bit3MemHl => .cb (.bit 3) .memHl
  | .bit3A => .cb (.bit 3) (.reg .a)
  | .bit4B => .cb (.bit 4) (.reg .b)
  | .bit4C => .cb (.bit 4) (.reg .c)
  | .bit4D => .cb (.bit 4) (.reg .d)
  | .bit4E => .cb (.bit 4) (.reg .e)
  | .bit4H => .cb (.bit 4) (.reg .h)
  | .bit4L => .cb (.bit 4) (.reg .l)
  | .bit4MemHl => .cb (.bit 4) .memHl
  | .bit4A => .cb (.bit 4) (.reg .a)
  | .bit5B => .cb (.bit 5) (.reg .b)
  | .bit5C => .cb (.bit 5) (.reg .c)
  | .bit5D => .cb (.bit 5) (.reg .d)
  | .bit5E => .cb (.bit 5) (.reg .e)
  | .bit5H => .cb (.bit 5) (.reg .h)
  | .bit5L => .cb (.bit 5) (.reg .l)
  | .bit5MemHl => .cb (.bit 5) .memHl
  | .bit5A => .cb (.bit 5) (.reg .a)
  | .bit6B => .cb (.bit 6) (.reg .b)
  | .bit6C => .cb (.bit 6) (.reg .c)
  | .bit6D => .cb (.bit 6) (.reg .d)
  | .bit6E => .cb (.bit 6) (.reg .e)
  | .bit6H => .cb (.bit 6) (.reg .h)
  | .bit6L => .cb (.bit 6) (.reg .l)
  | .bit6MemHl => .cb (.bit 6) .memHl
  | .bit6A => .cb (.bit 6) (.reg .a)
  | .bit7B => .cb (.bit 7) (.reg .b)
  | .bit7C => .cb (.bit 7) (.reg .c)
  | .bit7D => .cb (.bit 7) (.reg .d)
  | .bit7E => .cb (.bit 7) (.reg .e)
  | .bit7H => .cb (.bit 7) (.reg .h)
  | .bit7L => .cb (.bit 7) (.reg .l)
  | .bit7MemHl => .cb (.bit 7) .memHl
  | .bit7A => .cb (.bit 7) (.reg .a)
  | .res0B => .cb (.res 0) (.reg .b)
  | .res0C => .cb (.res 0) (.reg .c)
  | .res0D => .cb (.res 0) (.reg .d)
  | .res0E => .cb (.res 0) (.reg .e)
  | .res0H => .cb (.res 0) (.reg .h)
  | .res0L => .cb (.res 0) (.reg .l)
  | .res0MemHl => .cb (.res 0) .memHl
  | .res0A => .cb (.res 0) (.reg .a)
  | .res1B => .cb (.res 1) (.reg .b)
  | .res1C => .cb (.res 1) (.reg .c)
  | .res1D => .cb (.res 1) (.reg .d)
  | .res1E => .cb (.res 1) (.reg .e)
  | .res1H => .cb (.res 1) (.reg .h)
  | .res1L => .cb (.res 1) (.reg .l)
  | .res1MemHl => .cb (.res 1) .memHl
  | .res1A => .cb (.res 1) (.reg .a)
  | .res2B => .cb (.res 2) (.reg .b)
  | .res2C => .cb (.res 2) (.reg .c)
  | .res2D => .cb (.res 2) (.reg .d)
  | .res2E => .cb (.res 2) (.reg .e)
  | .res2H => .cb (.res 2) (.reg .h)
  | .res2L => .cb (.res 2) (.reg .l)
  | .res2MemHl => .cb (.res 2) .memHl
  | .res2A => .cb (.res 2) (.reg .a)
  | .res3B => .cb (.res 3) (.reg .b)
  | .res3C => .cb (.res 3) (.reg .c)
  | .res3D => .cb (.res 3) (.reg .d)
  | .res3E => .cb (.res 3) (.reg .e)
  | .res3H => .cb (.res 3) (.reg .h)
  | .res3L => .cb (.res 3) (.reg .l)
  | .res3MemHl => .cb (.res 3) .memHl
  | .res3A => .cb (.res 3) (.reg .a)
  | .res4B => .cb (.res 4) (.reg .b)
  | .res4C => .cb (.res 4) (.reg .c)
  | .res4D => .cb (.res 4) (.reg .d)
  | .res4E => .cb (.res 4) (.reg .e)
  | .res4H => .cb (.res 4) (.reg .h)
  | .res4L => .cb (.res 4) (.reg .l)
  | .res4MemHl => .cb (.res 4) .memHl
  | .res4A => .cb (.res 4) (.reg .a)
  | .res5B => .cb (.res 5) (.reg .b)
  | .res5C => .cb (.res 5) (.reg .c)
  | .res5D => .cb (.res 5) (.reg .d)
  | .res5E => .cb (.res 5) (.reg .e)
  | .res5H => .cb (.res 5) (.reg .h)
  | .res5L => .cb (.res 5) (.reg .l)
  | .res5MemHl => .cb (.res 5) .memHl
  | .res5A => .cb (.res 5) (.reg .a)
  | .res6B => .cb (.res 6) (.reg .b)
  | .res6C => .cb (.res 6) (.reg .c)
  | .res6D => .cb (.res 6) (.reg .d)
  | .res6E => .cb (.res 6) (.reg .e)
  | .res6H => .cb (.res 6) (.reg .h)
  | .res6L => .cb (.res 6) (.reg .l)
  | .res6MemHl => .cb (.res 6) .memHl
  | .res6A => .cb (.res 6) (.reg .a)
  | .res7B => .cb (.res 7) (.reg .b)
  | .res7C => .cb (.res 7) (.reg .c)
  | .res7D => .cb (.res 7) (.reg .d)
  | .res7E => .cb (.res 7) (.reg .e)
  | .res7H => .cb (.res 7) (.reg .h)
  | .res7L => .cb (.res 7) (.reg .l)
  | .res7MemHl => .cb (.res 7) .memHl
  | .res7A => .cb (.res 7) (.reg .a)
  | .set0B => .cb (.set 0) (.reg .b)
  | .set0C => .cb (.set 0) (.reg .c)
  | .set0D => .cb (.set 0) (.reg .d)
  | .set0E => .cb (.set 0) (.reg .e)
  | .set0H => .cb (.set 0) (.reg .h)
  | .set0L => .cb (.set 0) (.reg .l)
  | .set0MemHl => .cb (.set 0) .memHl
  | .set0A => .cb (.set 0) (.reg .a)
  | .set1B => .cb (.set 1) (.reg .b)
  | .set1C => .cb (.set 1) (.reg .c)
  | .set1D => .cb (.set 1) (.reg .d)
  | .set1E => .cb (.set 1) (.reg .e)
  | .set1H => .cb (.set 1) (.reg .h)
  | .set1L => .cb (.set 1) (.reg .l)
  | .set1MemHl => .cb (.set 1) .memHl
  | .set1A => .cb (.set 1) (.reg .a)
  | .set2B => .cb (.set 2) (.reg .b)
  | .set2C => .cb (.set 2) (.reg .c)
  | .set2D => .cb (.set 2) (.reg .d)
  | .set2E => .cb (.set 2) (.reg .e)
  | .set2H => .cb (.set 2) (.reg .h)
  | .set2L => .cb (.set 2) (.reg .l)
  | .set2MemHl => .cb (.set 2) .memHl
  | .set2A => .cb (.set 2) (.reg .a)
  | .set3B => .cb (.set 3) (.reg .b)
  | .set3C => .cb (.set 3) (.reg .c)
  | .set3D => .cb (.set 3) (.reg .d)
  | .set3E => .cb (.set 3) (.reg .e)
  | .set3H => .cb (.set 3) (.reg .h)
  | .set3L => .cb (.set 3) (.reg .l)
  | .set3MemHl => .cb (.set 3) .memHl
  | .set3A => .cb (.set 3) (.reg .a)
  | .set4B => .cb (.set 4) (.reg .b)
  | .set4C => .cb (.set 4) (.reg .c)
  | .set4D => .cb (.set 4) (.reg .d)
  | .set4E => .cb (.set 4) (.reg .e)
  | .set4H => .cb (.set 4) (.reg .h)
  | .set4L => .cb (.set 4) (.reg .l)
  | .set4MemHl => .cb (.set 4) .memHl
  | .set4A => .cb (.set 4) (.reg .a)
  | .set5B => .cb (.set 5) (.reg .b)
  | .set5C => .cb (.set 5) (.reg .c)
  | .set5D => .cb (.set 5) (.reg .d)
  | .set5E => .cb (.set 5) (.reg .e)
  | .set5H => .cb (.set 5) (.reg .h)
  | .set5L => .cb (.set 5) (.reg .l)
  | .set5MemHl => .cb (.set 5) .memHl
  | .set5A => .cb (.set 5) (.reg .a)
  | .set6B => .cb (.set 6) (.reg .b)
  | .set6C => .cb (.set 6) (.reg .c)
  | .set6D => .cb (.set 6) (.reg .d)
  | .set6E => .cb (.set 6) (.reg .e)
  | .set6H => .cb (.set 6) (.reg .h)
  | .set6L => .cb (.set 6) (.reg .l)
  | .set6MemHl => .cb (.set 6) .memHl
  | .set6A => .cb (.set 6) (.reg .a)
  | .set7B => .cb (.set 7) (.reg .b)
  | .set7C => .cb (.set 7) (.reg .c)
  | .set7D => .cb (.set 7) (.reg .d)
  | .set7E => .cb (.set 7) (.reg .e)
  | .set7H => .cb (.set 7) (.reg .h)
  | .set7L => .cb (.set 7) (.reg .l)
  | .set7MemHl => .cb (.set 7) .memHl
  | .set7A => .cb (.set 7) (.reg .a)

/-- Index in `r[]` (R90); 6 is the place of `(HL)`. -/
def Reg8.index : Reg8 → Nat
  | .b => 0
  | .c => 1
  | .d => 2
  | .e => 3
  | .h => 4
  | .l => 5
  | .a => 7

/-- Index in `r[]` (R90). -/
def Loc8.index : Loc8 → Nat
  | .reg r => r.index
  | .memHl => 6

/-- Index in `rp[]` (R90). -/
def Rp.index : Rp → Nat
  | .bc => 0
  | .de => 1
  | .hl => 2
  | .sp => 3

/-- Index in `rp2[]` (R90). -/
def Rp2.index : Rp2 → Nat
  | .bc => 0
  | .de => 1
  | .hl => 2
  | .af => 3

/-- Index in `alu[]` (R90). -/
def AluOp.index : AluOp → Nat
  | .add => 0
  | .adc => 1
  | .sub => 2
  | .sbc => 3
  | .and => 4
  | .xor => 5
  | .or => 6
  | .cp => 7

/-- Index in `rot[]` (R90). -/
def RotOp.index : RotOp → Nat
  | .rlc => 0
  | .rrc => 1
  | .rl => 2
  | .rr => 3
  | .sla => 4
  | .sra => 5
  | .swap => 6
  | .srl => 7

/-- The register `rp[p]` names. -/
def Rp.toReg16 : Rp → Reg16
  | .bc => .bc
  | .de => .de
  | .hl => .hl
  | .sp => .sp

/-- The pair `rp2[p]` names. -/
def Rp2.toReg16 : Rp2 → Reg16
  | .bc => .bc
  | .de => .de
  | .hl => .hl
  | .af => .af

/-- The three tiers of the instruction set (R2). -/
inductive Tier where
  | source
  | decided
  | extension
  deriving DecidableEq, Repr

/-- The tier of an Instruction (R91, R92): `Inc(BC)`, `Inc(DE)`, `Rlc(B)` are the source's; `Add(r)` and `Jp` have decided
bytes; all else is the extension. -/
def Kind.tier : Kind → Tier
  | .inc .bc => .source
  | .inc .de => .source
  | .cb (.rot .rlc) (.reg .b) => .source
  | .alu .add (.reg _) => .decided
  | .jp _ => .decided
  | _ => .extension

/-- A TABLE holds the rows of a tier (R7). -/
def Table.holds : Table → Tier → Bool
  | .tSrc, t => t == .source
  | .tMin, t => t == .source || t == .decided
  | .tFull, _ => true

/-- R91: the cells that hold under every TABLE. -/
def sourceCells : List (Byte × Bool) := [(0x02, false), (0x13, false), (0x00, true)]

/-- R92: the cells that hold under `T_min` and `T_full`. -/
def decidedBytes : List Byte :=
  [0x80, 0x81, 0x82, 0x83, 0x84, 0x85, 0x87, 0xC2, 0xC3, 0xCA, 0xD2, 0xDA]

/-- R96: the seventeen unprefixed bytes that are unknown under `T_full`: group (a), group (b), group (c). -/
def unknownBytes : List Byte :=
  [0xFF] ++ [0x10, 0x76, 0xD9, 0xF3, 0xFB] ++
    [0xD3, 0xDB, 0xDD, 0xE3, 0xE4, 0xEB, 0xEC, 0xED, 0xF4, 0xFC, 0xFD]

/-- R95: the cell `(op, prefixed)` decodes to an Instruction under this TABLE. 0xCB unprefixed never does. -/
def Table.assigns : Table → Byte → Bool → Bool
  | .tSrc, op, p => sourceCells.contains (op, p)
  | .tMin, op, p => sourceCells.contains (op, p) || (!p && decidedBytes.contains op)
  | .tFull, op, p => p || (!unknownBytes.contains op && op != 0xCB)

end Sys2Proof
end

