-- ==== Sys2Proof/Machine/Operands.lean ====
section
/-! DEFINITION. The operand forms: immediates read relative to `pc0` (spec/30_encoding.md R85, R86), the page at 0xFF00, the
operand `r[z]` (R90, R260) and the second operand of the accumulator operations (R200). -/

namespace Sys2Proof.Machine

/-- `imm8 = MemRead(pc +16 1, 1)` (R85). -/
def State.imm8 (s : State) : Byte := s.load8 (s.pc + 1)

/-- `imm16 = MemRead(pc +16 1, 2)` (R86). -/
def State.imm16 (s : State) : Word := s.load16 (s.pc + 1)

/-- `xp[HL]`. -/
def State.hl (s : State) : Word := s.pair .hl

/-- The address `0xFF00 + n` (R160 to R163). -/
def pageAddr (n : Byte) : Word := 0xFF00 + zext16 n

/-- The operand `r[z]`: `x[r]` or `MemRead(xp[HL], 1)` (R209, R260). -/
def State.loc8 (s : State) : Loc8 → Byte
  | .reg r => s.reg r
  | .memHl => s.load8 s.hl

/-- Writes a result to the operand `r[z]` (R209, R260). -/
def State.setLoc8 (s : State) (x : Loc8) (v : Byte) : State :=
  match x with
  | .reg r => s.setReg r v
  | .memHl => s.store8 s.hl v

/-- The second operand of an accumulator operation (R200). -/
def State.operand8 (s : State) : Operand8 → Byte
  | .reg r => s.reg r
  | .memHl => s.load8 s.hl
  | .imm => s.imm8

/-- The length of an accumulator operation: 2 for the immediate form, else 1 (R200). -/
def operandLen : Operand8 → Word
  | .reg _ => 1
  | .memHl => 1
  | .imm => 2

end Sys2Proof.Machine
end

