-- ==== Sys2Proof/Machine/Alu16.lean ====
section
/-! DEFINITION. 16-bit arithmetic (spec/45_ext_alu_16bit.md); `INC rr` is the source's Inc in Documented.lean. -/

namespace Sys2Proof.Machine

/-- `ADD HL,rr` (R230). -/
def addHl (p : Rp) (s : State) : State :=
  ((s.setPair .hl (s.hl + s.pair p.toReg16)).setFlags (addHlFlags s.f s.hl (s.pair p.toReg16))).advance 1

/-- `DEC rr` (R231). -/
def decPair (p : Rp) (s : State) : State := (s.setPair p.toReg16 (s.pair p.toReg16 - 1)).advance 1

/-- `ADD SP,d` (R232). -/
def addSpDisp (s : State) : State :=
  ((s.setPair .sp (s.sp + sext16 s.imm8)).setFlags (spDispFlags s.sp s.imm8)).advance 2

/-! ## One meaning per instruction -/

/-- `ADD HL,BC`: 09, R230. -/
def execAddHlBc (s : State) : Result := .next (addHl .bc s)

/-- `DEC BC`: 0B, R231. -/
def execDecBc (s : State) : Result := .next (decPair .bc s)

/-- `ADD HL,DE`: 19, R230. -/
def execAddHlDe (s : State) : Result := .next (addHl .de s)

/-- `DEC DE`: 1B, R231. -/
def execDecDe (s : State) : Result := .next (decPair .de s)

/-- `ADD HL,HL`: 29, R230. -/
def execAddHlHl (s : State) : Result := .next (addHl .hl s)

/-- `DEC HL`: 2B, R231. -/
def execDecHl (s : State) : Result := .next (decPair .hl s)

/-- `ADD HL,SP`: 39, R230. -/
def execAddHlSp (s : State) : Result := .next (addHl .sp s)

/-- `DEC SP`: 3B, R231. -/
def execDecSp (s : State) : Result := .next (decPair .sp s)

/-- `ADD SP,d`: E8 d, R232. -/
def execAddSpDisp (s : State) : Result := .next (addSpDisp s)

end Sys2Proof.Machine
end

