-- ==== Sys2Proof/Machine/Alu8.lean ====
section
/-! DEFINITION. 8-bit arithmetic, logic and compare (spec/44_ext_alu_8bit.md); the register form of ADD is in
Documented.lean. -/

namespace Sys2Proof.Machine

/-- The result of an accumulator operation; CP writes A with its old value, that is not at all (R201 to R208). -/
def aluByteOf (op : AluOp) (a v : Byte) (c : Bool) : Byte :=
  match op with
  | .add => addByte a v false
  | .adc => addByte a v c
  | .sub => subByte a v false
  | .sbc => subByte a v c
  | .and => a &&& v
  | .xor => a ^^^ v
  | .or => a ||| v
  | .cp => a

/-- The flags of an accumulator operation (R201 to R208). -/
def aluFlags (op : AluOp) (a v : Byte) (c : Bool) : Flags :=
  match op with
  | .add => addFlags a v false
  | .adc => addFlags a v c
  | .sub => subFlags a v false
  | .sbc => subFlags a v c
  | .and => logicFlags (a &&& v) true
  | .xor => logicFlags (a ^^^ v) false
  | .or => logicFlags (a ||| v) false
  | .cp => subFlags a v false

/-- `op A,v` in each of its forms (R200 to R208); `Add(r)` is `addReg` of R130. -/
def alu (op : AluOp) (x : Operand8) (s : State) : State :=
  ((s.setReg .a (aluByteOf op s.a (s.operand8 x) s.f.c)).setFlags
    (aluFlags op s.a (s.operand8 x) s.f.c)).advance (operandLen x)

/-- `INC r`, `INC (HL)` (R209). -/
def inc8 (x : Loc8) (s : State) : State :=
  ((s.setLoc8 x (s.loc8 x + 1)).setFlags (incFlags s.f (s.loc8 x))).advance 1

/-- `DEC r`, `DEC (HL)` (R210). -/
def dec8 (x : Loc8) (s : State) : State :=
  ((s.setLoc8 x (s.loc8 x - 1)).setFlags (decFlags s.f (s.loc8 x))).advance 1

/-! ## One meaning per instruction -/

/-- `INC B`: 04, R209. -/
def execIncB (s : State) : Result := .next (inc8 (.reg .b) s)

/-- `DEC B`: 05, R210. -/
def execDecB (s : State) : Result := .next (dec8 (.reg .b) s)

/-- `INC C`: 0C, R209. -/
def execIncC (s : State) : Result := .next (inc8 (.reg .c) s)

/-- `DEC C`: 0D, R210. -/
def execDecC (s : State) : Result := .next (dec8 (.reg .c) s)

/-- `INC D`: 14, R209. -/
def execIncD (s : State) : Result := .next (inc8 (.reg .d) s)

/-- `DEC D`: 15, R210. -/
def execDecD (s : State) : Result := .next (dec8 (.reg .d) s)

/-- `INC E`: 1C, R209. -/
def execIncE (s : State) : Result := .next (inc8 (.reg .e) s)

/-- `DEC E`: 1D, R210. -/
def execDecE (s : State) : Result := .next (dec8 (.reg .e) s)

/-- `INC H`: 24, R209. -/
def execIncH (s : State) : Result := .next (inc8 (.reg .h) s)

/-- `DEC H`: 25, R210. -/
def execDecH (s : State) : Result := .next (dec8 (.reg .h) s)

/-- `INC L`: 2C, R209. -/
def execIncL (s : State) : Result := .next (inc8 (.reg .l) s)

/-- `DEC L`: 2D, R210. -/
def execDecL (s : State) : Result := .next (dec8 (.reg .l) s)

/-- `INC (HL)`: 34, R209. -/
def execIncMemHl (s : State) : Result := .next (inc8 .memHl s)

/-- `DEC (HL)`: 35, R210. -/
def execDecMemHl (s : State) : Result := .next (dec8 .memHl s)

/-- `INC A`: 3C, R209. -/
def execIncA (s : State) : Result := .next (inc8 (.reg .a) s)

/-- `DEC A`: 3D, R210. -/
def execDecA (s : State) : Result := .next (dec8 (.reg .a) s)

/-- `ADD A,(HL)`: 86, R201. -/
def execAddAMemHl (s : State) : Result := .next (alu .add .memHl s)

/-- `ADC A,B`: 88, R202. -/
def execAdcAB (s : State) : Result := .next (alu .adc (.reg .b) s)

/-- `ADC A,C`: 89, R202. -/
def execAdcAC (s : State) : Result := .next (alu .adc (.reg .c) s)

/-- `ADC A,D`: 8A, R202. -/
def execAdcAD (s : State) : Result := .next (alu .adc (.reg .d) s)

/-- `ADC A,E`: 8B, R202. -/
def execAdcAE (s : State) : Result := .next (alu .adc (.reg .e) s)

/-- `ADC A,H`: 8C, R202. -/
def execAdcAH (s : State) : Result := .next (alu .adc (.reg .h) s)

/-- `ADC A,L`: 8D, R202. -/
def execAdcAL (s : State) : Result := .next (alu .adc (.reg .l) s)

/-- `ADC A,(HL)`: 8E, R202. -/
def execAdcAMemHl (s : State) : Result := .next (alu .adc .memHl s)

/-- `ADC A,A`: 8F, R202. -/
def execAdcAA (s : State) : Result := .next (alu .adc (.reg .a) s)

/-- `SUB A,B`: 90, R203. -/
def execSubAB (s : State) : Result := .next (alu .sub (.reg .b) s)

/-- `SUB A,C`: 91, R203. -/
def execSubAC (s : State) : Result := .next (alu .sub (.reg .c) s)

/-- `SUB A,D`: 92, R203. -/
def execSubAD (s : State) : Result := .next (alu .sub (.reg .d) s)

/-- `SUB A,E`: 93, R203. -/
def execSubAE (s : State) : Result := .next (alu .sub (.reg .e) s)

/-- `SUB A,H`: 94, R203. -/
def execSubAH (s : State) : Result := .next (alu .sub (.reg .h) s)

/-- `SUB A,L`: 95, R203. -/
def execSubAL (s : State) : Result := .next (alu .sub (.reg .l) s)

/-- `SUB A,(HL)`: 96, R203. -/
def execSubAMemHl (s : State) : Result := .next (alu .sub .memHl s)

/-- `SUB A,A`: 97, R203. -/
def execSubAA (s : State) : Result := .next (alu .sub (.reg .a) s)

/-- `SBC A,B`: 98, R204. -/
def execSbcAB (s : State) : Result := .next (alu .sbc (.reg .b) s)

/-- `SBC A,C`: 99, R204. -/
def execSbcAC (s : State) : Result := .next (alu .sbc (.reg .c) s)

/-- `SBC A,D`: 9A, R204. -/
def execSbcAD (s : State) : Result := .next (alu .sbc (.reg .d) s)

/-- `SBC A,E`: 9B, R204. -/
def execSbcAE (s : State) : Result := .next (alu .sbc (.reg .e) s)

/-- `SBC A,H`: 9C, R204. -/
def execSbcAH (s : State) : Result := .next (alu .sbc (.reg .h) s)

/-- `SBC A,L`: 9D, R204. -/
def execSbcAL (s : State) : Result := .next (alu .sbc (.reg .l) s)

/-- `SBC A,(HL)`: 9E, R204. -/
def execSbcAMemHl (s : State) : Result := .next (alu .sbc .memHl s)

/-- `SBC A,A`: 9F, R204. -/
def execSbcAA (s : State) : Result := .next (alu .sbc (.reg .a) s)

/-- `AND A,B`: A0, R205. -/
def execAndAB (s : State) : Result := .next (alu .and (.reg .b) s)

/-- `AND A,C`: A1, R205. -/
def execAndAC (s : State) : Result := .next (alu .and (.reg .c) s)

/-- `AND A,D`: A2, R205. -/
def execAndAD (s : State) : Result := .next (alu .and (.reg .d) s)

/-- `AND A,E`: A3, R205. -/
def execAndAE (s : State) : Result := .next (alu .and (.reg .e) s)

/-- `AND A,H`: A4, R205. -/
def execAndAH (s : State) : Result := .next (alu .and (.reg .h) s)

/-- `AND A,L`: A5, R205. -/
def execAndAL (s : State) : Result := .next (alu .and (.reg .l) s)

/-- `AND A,(HL)`: A6, R205. -/
def execAndAMemHl (s : State) : Result := .next (alu .and .memHl s)

/-- `AND A,A`: A7, R205. -/
def execAndAA (s : State) : Result := .next (alu .and (.reg .a) s)

/-- `XOR A,B`: A8, R206. -/
def execXorAB (s : State) : Result := .next (alu .xor (.reg .b) s)

/-- `XOR A,C`: A9, R206. -/
def execXorAC (s : State) : Result := .next (alu .xor (.reg .c) s)

/-- `XOR A,D`: AA, R206. -/
def execXorAD (s : State) : Result := .next (alu .xor (.reg .d) s)

/-- `XOR A,E`: AB, R206. -/
def execXorAE (s : State) : Result := .next (alu .xor (.reg .e) s)

/-- `XOR A,H`: AC, R206. -/
def execXorAH (s : State) : Result := .next (alu .xor (.reg .h) s)

/-- `XOR A,L`: AD, R206. -/
def execXorAL (s : State) : Result := .next (alu .xor (.reg .l) s)

/-- `XOR A,(HL)`: AE, R206. -/
def execXorAMemHl (s : State) : Result := .next (alu .xor .memHl s)

/-- `XOR A,A`: AF, R206. -/
def execXorAA (s : State) : Result := .next (alu .xor (.reg .a) s)

/-- `OR A,B`: B0, R207. -/
def execOrAB (s : State) : Result := .next (alu .or (.reg .b) s)

/-- `OR A,C`: B1, R207. -/
def execOrAC (s : State) : Result := .next (alu .or (.reg .c) s)

/-- `OR A,D`: B2, R207. -/
def execOrAD (s : State) : Result := .next (alu .or (.reg .d) s)

/-- `OR A,E`: B3, R207. -/
def execOrAE (s : State) : Result := .next (alu .or (.reg .e) s)

/-- `OR A,H`: B4, R207. -/
def execOrAH (s : State) : Result := .next (alu .or (.reg .h) s)

/-- `OR A,L`: B5, R207. -/
def execOrAL (s : State) : Result := .next (alu .or (.reg .l) s)

/-- `OR A,(HL)`: B6, R207. -/
def execOrAMemHl (s : State) : Result := .next (alu .or .memHl s)

/-- `OR A,A`: B7, R207. -/
def execOrAA (s : State) : Result := .next (alu .or (.reg .a) s)

/-- `CP A,B`: B8, R208. -/
def execCpAB (s : State) : Result := .next (alu .cp (.reg .b) s)

/-- `CP A,C`: B9, R208. -/
def execCpAC (s : State) : Result := .next (alu .cp (.reg .c) s)

/-- `CP A,D`: BA, R208. -/
def execCpAD (s : State) : Result := .next (alu .cp (.reg .d) s)

/-- `CP A,E`: BB, R208. -/
def execCpAE (s : State) : Result := .next (alu .cp (.reg .e) s)

/-- `CP A,H`: BC, R208. -/
def execCpAH (s : State) : Result := .next (alu .cp (.reg .h) s)

/-- `CP A,L`: BD, R208. -/
def execCpAL (s : State) : Result := .next (alu .cp (.reg .l) s)

/-- `CP A,(HL)`: BE, R208. -/
def execCpAMemHl (s : State) : Result := .next (alu .cp .memHl s)

/-- `CP A,A`: BF, R208. -/
def execCpAA (s : State) : Result := .next (alu .cp (.reg .a) s)

/-- `ADD A,n`: C6 n, R201. -/
def execAddAN (s : State) : Result := .next (alu .add .imm s)

/-- `ADC A,n`: CE n, R202. -/
def execAdcAN (s : State) : Result := .next (alu .adc .imm s)

/-- `SUB A,n`: D6 n, R203. -/
def execSubAN (s : State) : Result := .next (alu .sub .imm s)

/-- `SBC A,n`: DE n, R204. -/
def execSbcAN (s : State) : Result := .next (alu .sbc .imm s)

/-- `AND A,n`: E6 n, R205. -/
def execAndAN (s : State) : Result := .next (alu .and .imm s)

/-- `XOR A,n`: EE n, R206. -/
def execXorAN (s : State) : Result := .next (alu .xor .imm s)

/-- `OR A,n`: F6 n, R207. -/
def execOrAN (s : State) : Result := .next (alu .or .imm s)

/-- `CP A,n`: FE n, R208. -/
def execCpAN (s : State) : Result := .next (alu .cp .imm s)

end Sys2Proof.Machine
end

