-- ==== Sys2Proof/Machine/Control.lean ====
section
/-! DEFINITION. Relative jumps, indirect jump, calls, returns, restarts (spec/48_ext_control_transfer.md); `JP nn` is the
source's Jp in Documented.lean. None writes a flag. -/

namespace Sys2Proof.Machine

/-- `JR d`, `JR cc,d` (R280, R281): relative to the address after the instruction. -/
def jr (cc : Cond) (s : State) : State :=
  if condHolds cc s.f then s.setPc (s.pc + 2 + sext16 s.imm8) else s.advance 2

/-- `JP HL` (R282). -/
def jpHl (s : State) : State := s.setPc s.hl

/-- `CALL nn`, `CALL cc,nn` (R283, R284): the operand is read before the push. -/
def call (cc : Cond) (s : State) : State :=
  if condHolds cc s.f then (s.push16 (s.pc + 3)).setPc s.imm16 else s.advance 3

/-- `RET`, `RET cc` (R285, R286). -/
def ret (cc : Cond) (s : State) : State :=
  if condHolds cc s.f then s.drop16.setPc s.top16 else s.advance 1

/-- `RST t` (R287): the target is `8 * y`. -/
def rst (y : Fin 7) (s : State) : State := (s.push16 (s.pc + 1)).setPc (BitVec.ofNat 16 (8 * y.val))

/-! ## One meaning per instruction -/

/-- `JR d`: 18 d, R280. -/
def execJrDisp (s : State) : Result := .next (jr .always s)

/-- `JR NZ,d`: 20 d, R281. -/
def execJrNzDisp (s : State) : Result := .next (jr .notZero s)

/-- `JR Z,d`: 28 d, R281. -/
def execJrZDisp (s : State) : Result := .next (jr .zero s)

/-- `JR NC,d`: 30 d, R281. -/
def execJrNcDisp (s : State) : Result := .next (jr .notCarry s)

/-- `JR C,d`: 38 d, R281. -/
def execJrCDisp (s : State) : Result := .next (jr .carry s)

/-- `RET NZ`: C0, R286. -/
def execRetNz (s : State) : Result := .next (ret .notZero s)

/-- `CALL NZ,nn`: C4 lo hi, R284. -/
def execCallNzNn (s : State) : Result := .next (call .notZero s)

/-- `RST 00H`: C7, R287. -/
def execRst00H (s : State) : Result := .next (rst 0 s)

/-- `RET Z`: C8, R286. -/
def execRetZ (s : State) : Result := .next (ret .zero s)

/-- `RET`: C9, R285. -/
def execRet (s : State) : Result := .next (ret .always s)

/-- `CALL Z,nn`: CC lo hi, R284. -/
def execCallZNn (s : State) : Result := .next (call .zero s)

/-- `CALL nn`: CD lo hi, R283. -/
def execCallNn (s : State) : Result := .next (call .always s)

/-- `RST 08H`: CF, R287. -/
def execRst08H (s : State) : Result := .next (rst 1 s)

/-- `RET NC`: D0, R286. -/
def execRetNc (s : State) : Result := .next (ret .notCarry s)

/-- `CALL NC,nn`: D4 lo hi, R284. -/
def execCallNcNn (s : State) : Result := .next (call .notCarry s)

/-- `RST 10H`: D7, R287. -/
def execRst10H (s : State) : Result := .next (rst 2 s)

/-- `RET C`: D8, R286. -/
def execRetC (s : State) : Result := .next (ret .carry s)

/-- `CALL C,nn`: DC lo hi, R284. -/
def execCallCNn (s : State) : Result := .next (call .carry s)

/-- `RST 18H`: DF, R287. -/
def execRst18H (s : State) : Result := .next (rst 3 s)

/-- `RST 20H`: E7, R287. -/
def execRst20H (s : State) : Result := .next (rst 4 s)

/-- `JP HL`: E9, R282. -/
def execJpHl (s : State) : Result := .next (jpHl s)

/-- `RST 28H`: EF, R287. -/
def execRst28H (s : State) : Result := .next (rst 5 s)

/-- `RST 30H`: F7, R287. -/
def execRst30H (s : State) : Result := .next (rst 6 s)

end Sys2Proof.Machine
end

