-- ==== Sys2Proof/Machine/Documented.lean ====
section
/-! DEFINITION. The instructions the source documents (spec/41_documented_instructions.md): Add, Inc, Rlc, Jp, with the
clauses of `PROFILE = as_built`. -/

namespace Sys2Proof.Machine

/-- The addition of R130 of a byte to A, before the commit of `pc`. -/
def addToA (v : Byte) (s : State) : State :=
  (s.setReg .a (addByte s.a v false)).setFlags (addFlags s.a v false)

/-- Whether an Add selector performs the addition (R130, D3). -/
def addImplemented (cfg : Config) (r : Reg8) : Bool :=
  cfg.profile == .completed || cfg.addImpl.contains r

/-- `Add(r)` (R130). Under `as_built` a selector outside `ADD_IMPL` changes nothing, `pc` included (R134). -/
def addReg (r : Reg8) (s : State) : State :=
  if addImplemented s.cfg r then (addToA (s.reg r) s).advance 1 else s

/-- The bytes Inc advances by: 1, and 0 under `as_built` (R131, D6). -/
def incLen (cfg : Config) : Word := if cfg.profile = .completed then 1 else 0

/-- `Inc(rr)` (R131): no flag is written (C4). The `as_built` clause is read for every selector (DEDUCED, log 4). -/
def incPair (p : Rp) (s : State) : State :=
  (s.setPair p.toReg16 (s.pair p.toReg16 + 1)).advance (incLen s.cfg)

/-- `Rlc(r)` (R132). Under `as_built` nothing changes, `pc` included (R134); read for every selector (DEDUCED, log 4). -/
def rlcReg (r : Reg8) (s : State) : State :=
  if s.cfg.profile = .completed then
    ((s.setReg r (rotByte .rlc (s.reg r) s.f.c)).setFlags (rotFlags .rlc (s.reg r) s.f.c)).advance 2
  else s

/-- `Jp(cond)` (R133). -/
def jp (cc : Cond) (s : State) : State :=
  if condHolds cc s.f then s.setPc s.imm16 else s.advance 3

/-! ## One meaning per instruction -/

/-- `INC BC`: 02, R131. -/
def execIncBc (s : State) : Result := .next (incPair .bc s)

/-- `INC DE`: 13, R131. -/
def execIncDe (s : State) : Result := .next (incPair .de s)

/-- `INC HL`: 23, R131. -/
def execIncHl (s : State) : Result := .next (incPair .hl s)

/-- `INC SP`: 33, R131. -/
def execIncSp (s : State) : Result := .next (incPair .sp s)

/-- `ADD A,B`: 80, R130. -/
def execAddAB (s : State) : Result := .next (addReg .b s)

/-- `ADD A,C`: 81, R130. -/
def execAddAC (s : State) : Result := .next (addReg .c s)

/-- `ADD A,D`: 82, R130. -/
def execAddAD (s : State) : Result := .next (addReg .d s)

/-- `ADD A,E`: 83, R130. -/
def execAddAE (s : State) : Result := .next (addReg .e s)

/-- `ADD A,H`: 84, R130. -/
def execAddAH (s : State) : Result := .next (addReg .h s)

/-- `ADD A,L`: 85, R130. -/
def execAddAL (s : State) : Result := .next (addReg .l s)

/-- `ADD A,A`: 87, R130. -/
def execAddAA (s : State) : Result := .next (addReg .a s)

/-- `JP NZ,nn`: C2 lo hi, R133. -/
def execJpNzNn (s : State) : Result := .next (jp .notZero s)

/-- `JP nn`: C3 lo hi, R133. -/
def execJpNn (s : State) : Result := .next (jp .always s)

/-- `JP Z,nn`: CA lo hi, R133. -/
def execJpZNn (s : State) : Result := .next (jp .zero s)

/-- `JP NC,nn`: D2 lo hi, R133. -/
def execJpNcNn (s : State) : Result := .next (jp .notCarry s)

/-- `JP C,nn`: DA lo hi, R133. -/
def execJpCNn (s : State) : Result := .next (jp .carry s)

/-- `RLC B`: CB 00, R132. -/
def execRlcB (s : State) : Result := .next (rlcReg .b s)

/-- `RLC C`: CB 01, R132. -/
def execRlcC (s : State) : Result := .next (rlcReg .c s)

/-- `RLC D`: CB 02, R132. -/
def execRlcD (s : State) : Result := .next (rlcReg .d s)

/-- `RLC E`: CB 03, R132. -/
def execRlcE (s : State) : Result := .next (rlcReg .e s)

/-- `RLC H`: CB 04, R132. -/
def execRlcH (s : State) : Result := .next (rlcReg .h s)

/-- `RLC L`: CB 05, R132. -/
def execRlcL (s : State) : Result := .next (rlcReg .l s)

/-- `RLC A`: CB 07, R132. -/
def execRlcA (s : State) : Result := .next (rlcReg .a s)

end Sys2Proof.Machine
end

