-- ==== Sys2Proof/Machine/Prefixed.lean ====
section
/-! DEFINITION. The prefixed operations (spec/47_ext_cb_prefixed.md, common shape R260); `RLC r` is the source's Rlc in
Documented.lean. -/

namespace Sys2Proof.Machine

/-- A rotate or shift of the operand `r[z]` (R261 to R268). -/
def rotate (op : RotOp) (x : Loc8) (s : State) : State :=
  ((s.setLoc8 x (rotByte op (s.loc8 x) s.f.c)).setFlags (rotFlags op (s.loc8 x) s.f.c)).advance 2

/-- `BIT b` (R269): nothing is written back. -/
def bitTest (b : Fin 8) (x : Loc8) (s : State) : State := (s.setFlags (bitFlags s.f (s.loc8 x) b)).advance 2

/-- `v & ~(1 << b)` at 8 bits (R270). -/
def clearBit (v : Byte) (b : Fin 8) : Byte := v &&& ~~~((1 : Byte) <<< b.val)

/-- `v | (1 << b)` (R271). -/
def assertBit (v : Byte) (b : Fin 8) : Byte := v ||| ((1 : Byte) <<< b.val)

/-- `RES b` (R270). -/
def bitRes (b : Fin 8) (x : Loc8) (s : State) : State := (s.setLoc8 x (clearBit (s.loc8 x) b)).advance 2

/-- `SET b` (R271). -/
def bitSet (b : Fin 8) (x : Loc8) (s : State) : State := (s.setLoc8 x (assertBit (s.loc8 x) b)).advance 2

/-! ## One meaning per instruction -/

/-- `RLC (HL)`: CB 06, R261. -/
def execRlcMemHl (s : State) : Result := .next (rotate .rlc .memHl s)

/-- `RRC B`: CB 08, R262. -/
def execRrcB (s : State) : Result := .next (rotate .rrc (.reg .b) s)

/-- `RRC C`: CB 09, R262. -/
def execRrcC (s : State) : Result := .next (rotate .rrc (.reg .c) s)

/-- `RRC D`: CB 0A, R262. -/
def execRrcD (s : State) : Result := .next (rotate .rrc (.reg .d) s)

/-- `RRC E`: CB 0B, R262. -/
def execRrcE (s : State) : Result := .next (rotate .rrc (.reg .e) s)

/-- `RRC H`: CB 0C, R262. -/
def execRrcH (s : State) : Result := .next (rotate .rrc (.reg .h) s)

/-- `RRC L`: CB 0D, R262. -/
def execRrcL (s : State) : Result := .next (rotate .rrc (.reg .l) s)

/-- `RRC (HL)`: CB 0E, R262. -/
def execRrcMemHl (s : State) : Result := .next (rotate .rrc .memHl s)

/-- `RRC A`: CB 0F, R262. -/
def execRrcA (s : State) : Result := .next (rotate .rrc (.reg .a) s)

/-- `RL B`: CB 10, R263. -/
def execRlB (s : State) : Result := .next (rotate .rl (.reg .b) s)

/-- `RL C`: CB 11, R263. -/
def execRlC (s : State) : Result := .next (rotate .rl (.reg .c) s)

/-- `RL D`: CB 12, R263. -/
def execRlD (s : State) : Result := .next (rotate .rl (.reg .d) s)

/-- `RL E`: CB 13, R263. -/
def execRlE (s : State) : Result := .next (rotate .rl (.reg .e) s)

/-- `RL H`: CB 14, R263. -/
def execRlH (s : State) : Result := .next (rotate .rl (.reg .h) s)

/-- `RL L`: CB 15, R263. -/
def execRlL (s : State) : Result := .next (rotate .rl (.reg .l) s)

/-- `RL (HL)`: CB 16, R263. -/
def execRlMemHl (s : State) : Result := .next (rotate .rl .memHl s)

/-- `RL A`: CB 17, R263. -/
def execRlA (s : State) : Result := .next (rotate .rl (.reg .a) s)

/-- `RR B`: CB 18, R264. -/
def execRrB (s : State) : Result := .next (rotate .rr (.reg .b) s)

/-- `RR C`: CB 19, R264. -/
def execRrC (s : State) : Result := .next (rotate .rr (.reg .c) s)

/-- `RR D`: CB 1A, R264. -/
def execRrD (s : State) : Result := .next (rotate .rr (.reg .d) s)

/-- `RR E`: CB 1B, R264. -/
def execRrE (s : State) : Result := .next (rotate .rr (.reg .e) s)

/-- `RR H`: CB 1C, R264. -/
def execRrH (s : State) : Result := .next (rotate .rr (.reg .h) s)

/-- `RR L`: CB 1D, R264. -/
def execRrL (s : State) : Result := .next (rotate .rr (.reg .l) s)

/-- `RR (HL)`: CB 1E, R264. -/
def execRrMemHl (s : State) : Result := .next (rotate .rr .memHl s)

/-- `RR A`: CB 1F, R264. -/
def execRrA (s : State) : Result := .next (rotate .rr (.reg .a) s)

/-- `SLA B`: CB 20, R265. -/
def execSlaB (s : State) : Result := .next (rotate .sla (.reg .b) s)

/-- `SLA C`: CB 21, R265. -/
def execSlaC (s : State) : Result := .next (rotate .sla (.reg .c) s)

/-- `SLA D`: CB 22, R265. -/
def execSlaD (s : State) : Result := .next (rotate .sla (.reg .d) s)

/-- `SLA E`: CB 23, R265. -/
def execSlaE (s : State) : Result := .next (rotate .sla (.reg .e) s)

/-- `SLA H`: CB 24, R265. -/
def execSlaH (s : State) : Result := .next (rotate .sla (.reg .h) s)

/-- `SLA L`: CB 25, R265. -/
def execSlaL (s : State) : Result := .next (rotate .sla (.reg .l) s)

/-- `SLA (HL)`: CB 26, R265. -/
def execSlaMemHl (s : State) : Result := .next (rotate .sla .memHl s)

/-- `SLA A`: CB 27, R265. -/
def execSlaA (s : State) : Result := .next (rotate .sla (.reg .a) s)

/-- `SRA B`: CB 28, R266. -/
def execSraB (s : State) : Result := .next (rotate .sra (.reg .b) s)

/-- `SRA C`: CB 29, R266. -/
def execSraC (s : State) : Result := .next (rotate .sra (.reg .c) s)

/-- `SRA D`: CB 2A, R266. -/
def execSraD (s : State) : Result := .next (rotate .sra (.reg .d) s)

/-- `SRA E`: CB 2B, R266. -/
def execSraE (s : State) : Result := .next (rotate .sra (.reg .e) s)

/-- `SRA H`: CB 2C, R266. -/
def execSraH (s : State) : Result := .next (rotate .sra (.reg .h) s)

/-- `SRA L`: CB 2D, R266. -/
def execSraL (s : State) : Result := .next (rotate .sra (.reg .l) s)

/-- `SRA (HL)`: CB 2E, R266. -/
def execSraMemHl (s : State) : Result := .next (rotate .sra .memHl s)

/-- `SRA A`: CB 2F, R266. -/
def execSraA (s : State) : Result := .next (rotate .sra (.reg .a) s)

/-- `SWAP B`: CB 30, R267. -/
def execSwapB (s : State) : Result := .next (rotate .swap (.reg .b) s)

/-- `SWAP C`: CB 31, R267. -/
def execSwapC (s : State) : Result := .next (rotate .swap (.reg .c) s)

/-- `SWAP D`: CB 32, R267. -/
def execSwapD (s : State) : Result := .next (rotate .swap (.reg .d) s)

/-- `SWAP E`: CB 33, R267. -/
def execSwapE (s : State) : Result := .next (rotate .swap (.reg .e) s)

/-- `SWAP H`: CB 34, R267. -/
def execSwapH (s : State) : Result := .next (rotate .swap (.reg .h) s)

/-- `SWAP L`: CB 35, R267. -/
def execSwapL (s : State) : Result := .next (rotate .swap (.reg .l) s)

/-- `SWAP (HL)`: CB 36, R267. -/
def execSwapMemHl (s : State) : Result := .next (rotate .swap .memHl s)

/-- `SWAP A`: CB 37, R267. -/
def execSwapA (s : State) : Result := .next (rotate .swap (.reg .a) s)

/-- `SRL B`: CB 38, R268. -/
def execSrlB (s : State) : Result := .next (rotate .srl (.reg .b) s)

/-- `SRL C`: CB 39, R268. -/
def execSrlC (s : State) : Result := .next (rotate .srl (.reg .c) s)

/-- `SRL D`: CB 3A, R268. -/
def execSrlD (s : State) : Result := .next (rotate .srl (.reg .d) s)

/-- `SRL E`: CB 3B, R268. -/
def execSrlE (s : State) : Result := .next (rotate .srl (.reg .e) s)

/-- `SRL H`: CB 3C, R268. -/
def execSrlH (s : State) : Result := .next (rotate .srl (.reg .h) s)

/-- `SRL L`: CB 3D, R268. -/
def execSrlL (s : State) : Result := .next (rotate .srl (.reg .l) s)

/-- `SRL (HL)`: CB 3E, R268. -/
def execSrlMemHl (s : State) : Result := .next (rotate .srl .memHl s)

/-- `SRL A`: CB 3F, R268. -/
def execSrlA (s : State) : Result := .next (rotate .srl (.reg .a) s)

/-- `BIT 0,B`: CB 40, R269. -/
def execBit0B (s : State) : Result := .next (bitTest 0 (.reg .b) s)

/-- `BIT 0,C`: CB 41, R269. -/
def execBit0C (s : State) : Result := .next (bitTest 0 (.reg .c) s)

/-- `BIT 0,D`: CB 42, R269. -/
def execBit0D (s : State) : Result := .next (bitTest 0 (.reg .d) s)

/-- `BIT 0,E`: CB 43, R269. -/
def execBit0E (s : State) : Result := .next (bitTest 0 (.reg .e) s)

/-- `BIT 0,H`: CB 44, R269. -/
def execBit0H (s : State) : Result := .next (bitTest 0 (.reg .h) s)

/-- `BIT 0,L`: CB 45, R269. -/
def execBit0L (s : State) : Result := .next (bitTest 0 (.reg .l) s)

/-- `BIT 0,(HL)`: CB 46, R269. -/
def execBit0MemHl (s : State) : Result := .next (bitTest 0 .memHl s)

/-- `BIT 0,A`: CB 47, R269. -/
def execBit0A (s : State) : Result := .next (bitTest 0 (.reg .a) s)

/-- `BIT 1,B`: CB 48, R269. -/
def execBit1B (s : State) : Result := .next (bitTest 1 (.reg .b) s)

/-- `BIT 1,C`: CB 49, R269. -/
def execBit1C (s : State) : Result := .next (bitTest 1 (.reg .c) s)

/-- `BIT 1,D`: CB 4A, R269. -/
def execBit1D (s : State) : Result := .next (bitTest 1 (.reg .d) s)

/-- `BIT 1,E`: CB 4B, R269. -/
def execBit1E (s : State) : Result := .next (bitTest 1 (.reg .e) s)

/-- `BIT 1,H`: CB 4C, R269. -/
def execBit1H (s : State) : Result := .next (bitTest 1 (.reg .h) s)

/-- `BIT 1,L`: CB 4D, R269. -/
def execBit1L (s : State) : Result := .next (bitTest 1 (.reg .l) s)

/-- `BIT 1,(HL)`: CB 4E, R269. -/
def execBit1MemHl (s : State) : Result := .next (bitTest 1 .memHl s)

/-- `BIT 1,A`: CB 4F, R269. -/
def execBit1A (s : State) : Result := .next (bitTest 1 (.reg .a) s)

/-- `BIT 2,B`: CB 50, R269. -/
def execBit2B (s : State) : Result := .next (bitTest 2 (.reg .b) s)

/-- `BIT 2,C`: CB 51, R269. -/
def execBit2C (s : State) : Result := .next (bitTest 2 (.reg .c) s)

/-- `BIT 2,D`: CB 52, R269. -/
def execBit2D (s : State) : Result := .next (bitTest 2 (.reg .d) s)

/-- `BIT 2,E`: CB 53, R269. -/
def execBit2E (s : State) : Result := .next (bitTest 2 (.reg .e) s)

/-- `BIT 2,H`: CB 54, R269. -/
def execBit2H (s : State) : Result := .next (bitTest 2 (.reg .h) s)

/-- `BIT 2,L`: CB 55, R269. -/
def execBit2L (s : State) : Result := .next (bitTest 2 (.reg .l) s)

/-- `BIT 2,(HL)`: CB 56, R269. -/
def execBit2MemHl (s : State) : Result := .next (bitTest 2 .memHl s)

/-- `BIT 2,A`: CB 57, R269. -/
def execBit2A (s : State) : Result := .next (bitTest 2 (.reg .a) s)

/-- `BIT 3,B`: CB 58, R269. -/
def execBit3B (s : State) : Result := .next (bitTest 3 (.reg .b) s)

/-- `BIT 3,C`: CB 59, R269. -/
def execBit3C (s : State) : Result := .next (bitTest 3 (.reg .c) s)

/-- `BIT 3,D`: CB 5A, R269. -/
def execBit3D (s : State) : Result := .next (bitTest 3 (.reg .d) s)

/-- `BIT 3,E`: CB 5B, R269. -/
def execBit3E (s : State) : Result := .next (bitTest 3 (.reg .e) s)

/-- `BIT 3,H`: CB 5C, R269. -/
def execBit3H (s : State) : Result := .next (bitTest 3 (.reg .h) s)

/-- `BIT 3,L`: CB 5D, R269. -/
def execBit3L (s : State) : Result := .next (bitTest 3 (.reg .l) s)

/-- `BIT 3,(HL)`: CB 5E, R269. -/
def execBit3MemHl (s : State) : Result := .next (bitTest 3 .memHl s)

/-- `BIT 3,A`: CB 5F, R269. -/
def execBit3A (s : State) : Result := .next (bitTest 3 (.reg .a) s)

/-- `BIT 4,B`: CB 60, R269. -/
def execBit4B (s : State) : Result := .next (bitTest 4 (.reg .b) s)

/-- `BIT 4,C`: CB 61, R269. -/
def execBit4C (s : State) : Result := .next (bitTest 4 (.reg .c) s)

/-- `BIT 4,D`: CB 62, R269. -/
def execBit4D (s : State) : Result := .next (bitTest 4 (.reg .d) s)

/-- `BIT 4,E`: CB 63, R269. -/
def execBit4E (s : State) : Result := .next (bitTest 4 (.reg .e) s)

/-- `BIT 4,H`: CB 64, R269. -/
def execBit4H (s : State) : Result := .next (bitTest 4 (.reg .h) s)

/-- `BIT 4,L`: CB 65, R269. -/
def execBit4L (s : State) : Result := .next (bitTest 4 (.reg .l) s)

/-- `BIT 4,(HL)`: CB 66, R269. -/
def execBit4MemHl (s : State) : Result := .next (bitTest 4 .memHl s)

/-- `BIT 4,A`: CB 67, R269. -/
def execBit4A (s : State) : Result := .next (bitTest 4 (.reg .a) s)

/-- `BIT 5,B`: CB 68, R269. -/
def execBit5B (s : State) : Result := .next (bitTest 5 (.reg .b) s)

/-- `BIT 5,C`: CB 69, R269. -/
def execBit5C (s : State) : Result := .next (bitTest 5 (.reg .c) s)

/-- `BIT 5,D`: CB 6A, R269. -/
def execBit5D (s : State) : Result := .next (bitTest 5 (.reg .d) s)

/-- `BIT 5,E`: CB 6B, R269. -/
def execBit5E (s : State) : Result := .next (bitTest 5 (.reg .e) s)

/-- `BIT 5,H`: CB 6C, R269. -/
def execBit5H (s : State) : Result := .next (bitTest 5 (.reg .h) s)

/-- `BIT 5,L`: CB 6D, R269. -/
def execBit5L (s : State) : Result := .next (bitTest 5 (.reg .l) s)

/-- `BIT 5,(HL)`: CB 6E, R269. -/
def execBit5MemHl (s : State) : Result := .next (bitTest 5 .memHl s)

/-- `BIT 5,A`: CB 6F, R269. -/
def execBit5A (s : State) : Result := .next (bitTest 5 (.reg .a) s)

/-- `BIT 6,B`: CB 70, R269. -/
def execBit6B (s : State) : Result := .next (bitTest 6 (.reg .b) s)

/-- `BIT 6,C`: CB 71, R269. -/
def execBit6C (s : State) : Result := .next (bitTest 6 (.reg .c) s)

/-- `BIT 6,D`: CB 72, R269. -/
def execBit6D (s : State) : Result := .next (bitTest 6 (.reg .d) s)

/-- `BIT 6,E`: CB 73, R269. -/
def execBit6E (s : State) : Result := .next (bitTest 6 (.reg .e) s)

/-- `BIT 6,H`: CB 74, R269. -/
def execBit6H (s : State) : Result := .next (bitTest 6 (.reg .h) s)

/-- `BIT 6,L`: CB 75, R269. -/
def execBit6L (s : State) : Result := .next (bitTest 6 (.reg .l) s)

/-- `BIT 6,(HL)`: CB 76, R269. -/
def execBit6MemHl (s : State) : Result := .next (bitTest 6 .memHl s)

/-- `BIT 6,A`: CB 77, R269. -/
def execBit6A (s : State) : Result := .next (bitTest 6 (.reg .a) s)

/-- `BIT 7,B`: CB 78, R269. -/
def execBit7B (s : State) : Result := .next (bitTest 7 (.reg .b) s)

/-- `BIT 7,C`: CB 79, R269. -/
def execBit7C (s : State) : Result := .next (bitTest 7 (.reg .c) s)

/-- `BIT 7,D`: CB 7A, R269. -/
def execBit7D (s : State) : Result := .next (bitTest 7 (.reg .d) s)

/-- `BIT 7,E`: CB 7B, R269. -/
def execBit7E (s : State) : Result := .next (bitTest 7 (.reg .e) s)

/-- `BIT 7,H`: CB 7C, R269. -/
def execBit7H (s : State) : Result := .next (bitTest 7 (.reg .h) s)

/-- `BIT 7,L`: CB 7D, R269. -/
def execBit7L (s : State) : Result := .next (bitTest 7 (.reg .l) s)

/-- `BIT 7,(HL)`: CB 7E, R269. -/
def execBit7MemHl (s : State) : Result := .next (bitTest 7 .memHl s)

/-- `BIT 7,A`: CB 7F, R269. -/
def execBit7A (s : State) : Result := .next (bitTest 7 (.reg .a) s)

/-- `RES 0,B`: CB 80, R270. -/
def execRes0B (s : State) : Result := .next (bitRes 0 (.reg .b) s)

/-- `RES 0,C`: CB 81, R270. -/
def execRes0C (s : State) : Result := .next (bitRes 0 (.reg .c) s)

/-- `RES 0,D`: CB 82, R270. -/
def execRes0D (s : State) : Result := .next (bitRes 0 (.reg .d) s)

/-- `RES 0,E`: CB 83, R270. -/
def execRes0E (s : State) : Result := .next (bitRes 0 (.reg .e) s)

/-- `RES 0,H`: CB 84, R270. -/
def execRes0H (s : State) : Result := .next (bitRes 0 (.reg .h) s)

/-- `RES 0,L`: CB 85, R270. -/
def execRes0L (s : State) : Result := .next (bitRes 0 (.reg .l) s)

/-- `RES 0,(HL)`: CB 86, R270. -/
def execRes0MemHl (s : State) : Result := .next (bitRes 0 .memHl s)

/-- `RES 0,A`: CB 87, R270. -/
def execRes0A (s : State) : Result := .next (bitRes 0 (.reg .a) s)

/-- `RES 1,B`: CB 88, R270. -/
def execRes1B (s : State) : Result := .next (bitRes 1 (.reg .b) s)

/-- `RES 1,C`: CB 89, R270. -/
def execRes1C (s : State) : Result := .next (bitRes 1 (.reg .c) s)

/-- `RES 1,D`: CB 8A, R270. -/
def execRes1D (s : State) : Result := .next (bitRes 1 (.reg .d) s)

/-- `RES 1,E`: CB 8B, R270. -/
def execRes1E (s : State) : Result := .next (bitRes 1 (.reg .e) s)

/-- `RES 1,H`: CB 8C, R270. -/
def execRes1H (s : State) : Result := .next (bitRes 1 (.reg .h) s)

/-- `RES 1,L`: CB 8D, R270. -/
def execRes1L (s : State) : Result := .next (bitRes 1 (.reg .l) s)

/-- `RES 1,(HL)`: CB 8E, R270. -/
def execRes1MemHl (s : State) : Result := .next (bitRes 1 .memHl s)

/-- `RES 1,A`: CB 8F, R270. -/
def execRes1A (s : State) : Result := .next (bitRes 1 (.reg .a) s)

/-- `RES 2,B`: CB 90, R270. -/
def execRes2B (s : State) : Result := .next (bitRes 2 (.reg .b) s)

/-- `RES 2,C`: CB 91, R270. -/
def execRes2C (s : State) : Result := .next (bitRes 2 (.reg .c) s)

/-- `RES 2,D`: CB 92, R270. -/
def execRes2D (s : State) : Result := .next (bitRes 2 (.reg .d) s)

/-- `RES 2,E`: CB 93, R270. -/
def execRes2E (s : State) : Result := .next (bitRes 2 (.reg .e) s)

/-- `RES 2,H`: CB 94, R270. -/
def execRes2H (s : State) : Result := .next (bitRes 2 (.reg .h) s)

/-- `RES 2,L`: CB 95, R270. -/
def execRes2L (s : State) : Result := .next (bitRes 2 (.reg .l) s)

/-- `RES 2,(HL)`: CB 96, R270. -/
def execRes2MemHl (s : State) : Result := .next (bitRes 2 .memHl s)

/-- `RES 2,A`: CB 97, R270. -/
def execRes2A (s : State) : Result := .next (bitRes 2 (.reg .a) s)

/-- `RES 3,B`: CB 98, R270. -/
def execRes3B (s : State) : Result := .next (bitRes 3 (.reg .b) s)

/-- `RES 3,C`: CB 99, R270. -/
def execRes3C (s : State) : Result := .next (bitRes 3 (.reg .c) s)

/-- `RES 3,D`: CB 9A, R270. -/
def execRes3D (s : State) : Result := .next (bitRes 3 (.reg .d) s)

/-- `RES 3,E`: CB 9B, R270. -/
def execRes3E (s : State) : Result := .next (bitRes 3 (.reg .e) s)

/-- `RES 3,H`: CB 9C, R270. -/
def execRes3H (s : State) : Result := .next (bitRes 3 (.reg .h) s)

/-- `RES 3,L`: CB 9D, R270. -/
def execRes3L (s : State) : Result := .next (bitRes 3 (.reg .l) s)

/-- `RES 3,(HL)`: CB 9E, R270. -/
def execRes3MemHl (s : State) : Result := .next (bitRes 3 .memHl s)

/-- `RES 3,A`: CB 9F, R270. -/
def execRes3A (s : State) : Result := .next (bitRes 3 (.reg .a) s)

/-- `RES 4,B`: CB A0, R270. -/
def execRes4B (s : State) : Result := .next (bitRes 4 (.reg .b) s)

/-- `RES 4,C`: CB A1, R270. -/
def execRes4C (s : State) : Result := .next (bitRes 4 (.reg .c) s)

/-- `RES 4,D`: CB A2, R270. -/
def execRes4D (s : State) : Result := .next (bitRes 4 (.reg .d) s)

/-- `RES 4,E`: CB A3, R270. -/
def execRes4E (s : State) : Result := .next (bitRes 4 (.reg .e) s)

/-- `RES 4,H`: CB A4, R270. -/
def execRes4H (s : State) : Result := .next (bitRes 4 (.reg .h) s)

/-- `RES 4,L`: CB A5, R270. -/
def execRes4L (s : State) : Result := .next (bitRes 4 (.reg .l) s)

/-- `RES 4,(HL)`: CB A6, R270. -/
def execRes4MemHl (s : State) : Result := .next (bitRes 4 .memHl s)

/-- `RES 4,A`: CB A7, R270. -/
def execRes4A (s : State) : Result := .next (bitRes 4 (.reg .a) s)

/-- `RES 5,B`: CB A8, R270. -/
def execRes5B (s : State) : Result := .next (bitRes 5 (.reg .b) s)

/-- `RES 5,C`: CB A9, R270. -/
def execRes5C (s : State) : Result := .next (bitRes 5 (.reg .c) s)

/-- `RES 5,D`: CB AA, R270. -/
def execRes5D (s : State) : Result := .next (bitRes 5 (.reg .d) s)

/-- `RES 5,E`: CB AB, R270. -/
def execRes5E (s : State) : Result := .next (bitRes 5 (.reg .e) s)

/-- `RES 5,H`: CB AC, R270. -/
def execRes5H (s : State) : Result := .next (bitRes 5 (.reg .h) s)

/-- `RES 5,L`: CB AD, R270. -/
def execRes5L (s : State) : Result := .next (bitRes 5 (.reg .l) s)

/-- `RES 5,(HL)`: CB AE, R270. -/
def execRes5MemHl (s : State) : Result := .next (bitRes 5 .memHl s)

/-- `RES 5,A`: CB AF, R270. -/
def execRes5A (s : State) : Result := .next (bitRes 5 (.reg .a) s)

/-- `RES 6,B`: CB B0, R270. -/
def execRes6B (s : State) : Result := .next (bitRes 6 (.reg .b) s)

/-- `RES 6,C`: CB B1, R270. -/
def execRes6C (s : State) : Result := .next (bitRes 6 (.reg .c) s)

/-- `RES 6,D`: CB B2, R270. -/
def execRes6D (s : State) : Result := .next (bitRes 6 (.reg .d) s)

/-- `RES 6,E`: CB B3, R270. -/
def execRes6E (s : State) : Result := .next (bitRes 6 (.reg .e) s)

/-- `RES 6,H`: CB B4, R270. -/
def execRes6H (s : State) : Result := .next (bitRes 6 (.reg .h) s)

/-- `RES 6,L`: CB B5, R270. -/
def execRes6L (s : State) : Result := .next (bitRes 6 (.reg .l) s)

/-- `RES 6,(HL)`: CB B6, R270. -/
def execRes6MemHl (s : State) : Result := .next (bitRes 6 .memHl s)

/-- `RES 6,A`: CB B7, R270. -/
def execRes6A (s : State) : Result := .next (bitRes 6 (.reg .a) s)

/-- `RES 7,B`: CB B8, R270. -/
def execRes7B (s : State) : Result := .next (bitRes 7 (.reg .b) s)

/-- `RES 7,C`: CB B9, R270. -/
def execRes7C (s : State) : Result := .next (bitRes 7 (.reg .c) s)

/-- `RES 7,D`: CB BA, R270. -/
def execRes7D (s : State) : Result := .next (bitRes 7 (.reg .d) s)

/-- `RES 7,E`: CB BB, R270. -/
def execRes7E (s : State) : Result := .next (bitRes 7 (.reg .e) s)

/-- `RES 7,H`: CB BC, R270. -/
def execRes7H (s : State) : Result := .next (bitRes 7 (.reg .h) s)

/-- `RES 7,L`: CB BD, R270. -/
def execRes7L (s : State) : Result := .next (bitRes 7 (.reg .l) s)

/-- `RES 7,(HL)`: CB BE, R270. -/
def execRes7MemHl (s : State) : Result := .next (bitRes 7 .memHl s)

/-- `RES 7,A`: CB BF, R270. -/
def execRes7A (s : State) : Result := .next (bitRes 7 (.reg .a) s)

/-- `SET 0,B`: CB C0, R271. -/
def execSet0B (s : State) : Result := .next (bitSet 0 (.reg .b) s)

/-- `SET 0,C`: CB C1, R271. -/
def execSet0C (s : State) : Result := .next (bitSet 0 (.reg .c) s)

/-- `SET 0,D`: CB C2, R271. -/
def execSet0D (s : State) : Result := .next (bitSet 0 (.reg .d) s)

/-- `SET 0,E`: CB C3, R271. -/
def execSet0E (s : State) : Result := .next (bitSet 0 (.reg .e) s)

/-- `SET 0,H`: CB C4, R271. -/
def execSet0H (s : State) : Result := .next (bitSet 0 (.reg .h) s)

/-- `SET 0,L`: CB C5, R271. -/
def execSet0L (s : State) : Result := .next (bitSet 0 (.reg .l) s)

/-- `SET 0,(HL)`: CB C6, R271. -/
def execSet0MemHl (s : State) : Result := .next (bitSet 0 .memHl s)

/-- `SET 0,A`: CB C7, R271. -/
def execSet0A (s : State) : Result := .next (bitSet 0 (.reg .a) s)

/-- `SET 1,B`: CB C8, R271. -/
def execSet1B (s : State) : Result := .next (bitSet 1 (.reg .b) s)

/-- `SET 1,C`: CB C9, R271. -/
def execSet1C (s : State) : Result := .next (bitSet 1 (.reg .c) s)

/-- `SET 1,D`: CB CA, R271. -/
def execSet1D (s : State) : Result := .next (bitSet 1 (.reg .d) s)

/-- `SET 1,E`: CB CB, R271. -/
def execSet1E (s : State) : Result := .next (bitSet 1 (.reg .e) s)

/-- `SET 1,H`: CB CC, R271. -/
def execSet1H (s : State) : Result := .next (bitSet 1 (.reg .h) s)

/-- `SET 1,L`: CB CD, R271. -/
def execSet1L (s : State) : Result := .next (bitSet 1 (.reg .l) s)

/-- `SET 1,(HL)`: CB CE, R271. -/
def execSet1MemHl (s : State) : Result := .next (bitSet 1 .memHl s)

/-- `SET 1,A`: CB CF, R271. -/
def execSet1A (s : State) : Result := .next (bitSet 1 (.reg .a) s)

/-- `SET 2,B`: CB D0, R271. -/
def execSet2B (s : State) : Result := .next (bitSet 2 (.reg .b) s)

/-- `SET 2,C`: CB D1, R271. -/
def execSet2C (s : State) : Result := .next (bitSet 2 (.reg .c) s)

/-- `SET 2,D`: CB D2, R271. -/
def execSet2D (s : State) : Result := .next (bitSet 2 (.reg .d) s)

/-- `SET 2,E`: CB D3, R271. -/
def execSet2E (s : State) : Result := .next (bitSet 2 (.reg .e) s)

/-- `SET 2,H`: CB D4, R271. -/
def execSet2H (s : State) : Result := .next (bitSet 2 (.reg .h) s)

/-- `SET 2,L`: CB D5, R271. -/
def execSet2L (s : State) : Result := .next (bitSet 2 (.reg .l) s)

/-- `SET 2,(HL)`: CB D6, R271. -/
def execSet2MemHl (s : State) : Result := .next (bitSet 2 .memHl s)

/-- `SET 2,A`: CB D7, R271. -/
def execSet2A (s : State) : Result := .next (bitSet 2 (.reg .a) s)

/-- `SET 3,B`: CB D8, R271. -/
def execSet3B (s : State) : Result := .next (bitSet 3 (.reg .b) s)

/-- `SET 3,C`: CB D9, R271. -/
def execSet3C (s : State) : Result := .next (bitSet 3 (.reg .c) s)

/-- `SET 3,D`: CB DA, R271. -/
def execSet3D (s : State) : Result := .next (bitSet 3 (.reg .d) s)

/-- `SET 3,E`: CB DB, R271. -/
def execSet3E (s : State) : Result := .next (bitSet 3 (.reg .e) s)

/-- `SET 3,H`: CB DC, R271. -/
def execSet3H (s : State) : Result := .next (bitSet 3 (.reg .h) s)

/-- `SET 3,L`: CB DD, R271. -/
def execSet3L (s : State) : Result := .next (bitSet 3 (.reg .l) s)

/-- `SET 3,(HL)`: CB DE, R271. -/
def execSet3MemHl (s : State) : Result := .next (bitSet 3 .memHl s)

/-- `SET 3,A`: CB DF, R271. -/
def execSet3A (s : State) : Result := .next (bitSet 3 (.reg .a) s)

/-- `SET 4,B`: CB E0, R271. -/
def execSet4B (s : State) : Result := .next (bitSet 4 (.reg .b) s)

/-- `SET 4,C`: CB E1, R271. -/
def execSet4C (s : State) : Result := .next (bitSet 4 (.reg .c) s)

/-- `SET 4,D`: CB E2, R271. -/
def execSet4D (s : State) : Result := .next (bitSet 4 (.reg .d) s)

/-- `SET 4,E`: CB E3, R271. -/
def execSet4E (s : State) : Result := .next (bitSet 4 (.reg .e) s)

/-- `SET 4,H`: CB E4, R271. -/
def execSet4H (s : State) : Result := .next (bitSet 4 (.reg .h) s)

/-- `SET 4,L`: CB E5, R271. -/
def execSet4L (s : State) : Result := .next (bitSet 4 (.reg .l) s)

/-- `SET 4,(HL)`: CB E6, R271. -/
def execSet4MemHl (s : State) : Result := .next (bitSet 4 .memHl s)

/-- `SET 4,A`: CB E7, R271. -/
def execSet4A (s : State) : Result := .next (bitSet 4 (.reg .a) s)

/-- `SET 5,B`: CB E8, R271. -/
def execSet5B (s : State) : Result := .next (bitSet 5 (.reg .b) s)

/-- `SET 5,C`: CB E9, R271. -/
def execSet5C (s : State) : Result := .next (bitSet 5 (.reg .c) s)

/-- `SET 5,D`: CB EA, R271. -/
def execSet5D (s : State) : Result := .next (bitSet 5 (.reg .d) s)

/-- `SET 5,E`: CB EB, R271. -/
def execSet5E (s : State) : Result := .next (bitSet 5 (.reg .e) s)

/-- `SET 5,H`: CB EC, R271. -/
def execSet5H (s : State) : Result := .next (bitSet 5 (.reg .h) s)

/-- `SET 5,L`: CB ED, R271. -/
def execSet5L (s : State) : Result := .next (bitSet 5 (.reg .l) s)

/-- `SET 5,(HL)`: CB EE, R271. -/
def execSet5MemHl (s : State) : Result := .next (bitSet 5 .memHl s)

/-- `SET 5,A`: CB EF, R271. -/
def execSet5A (s : State) : Result := .next (bitSet 5 (.reg .a) s)

/-- `SET 6,B`: CB F0, R271. -/
def execSet6B (s : State) : Result := .next (bitSet 6 (.reg .b) s)

/-- `SET 6,C`: CB F1, R271. -/
def execSet6C (s : State) : Result := .next (bitSet 6 (.reg .c) s)

/-- `SET 6,D`: CB F2, R271. -/
def execSet6D (s : State) : Result := .next (bitSet 6 (.reg .d) s)

/-- `SET 6,E`: CB F3, R271. -/
def execSet6E (s : State) : Result := .next (bitSet 6 (.reg .e) s)

/-- `SET 6,H`: CB F4, R271. -/
def execSet6H (s : State) : Result := .next (bitSet 6 (.reg .h) s)

/-- `SET 6,L`: CB F5, R271. -/
def execSet6L (s : State) : Result := .next (bitSet 6 (.reg .l) s)

/-- `SET 6,(HL)`: CB F6, R271. -/
def execSet6MemHl (s : State) : Result := .next (bitSet 6 .memHl s)

/-- `SET 6,A`: CB F7, R271. -/
def execSet6A (s : State) : Result := .next (bitSet 6 (.reg .a) s)

/-- `SET 7,B`: CB F8, R271. -/
def execSet7B (s : State) : Result := .next (bitSet 7 (.reg .b) s)

/-- `SET 7,C`: CB F9, R271. -/
def execSet7C (s : State) : Result := .next (bitSet 7 (.reg .c) s)

/-- `SET 7,D`: CB FA, R271. -/
def execSet7D (s : State) : Result := .next (bitSet 7 (.reg .d) s)

/-- `SET 7,E`: CB FB, R271. -/
def execSet7E (s : State) : Result := .next (bitSet 7 (.reg .e) s)

/-- `SET 7,H`: CB FC, R271. -/
def execSet7H (s : State) : Result := .next (bitSet 7 (.reg .h) s)

/-- `SET 7,L`: CB FD, R271. -/
def execSet7L (s : State) : Result := .next (bitSet 7 (.reg .l) s)

/-- `SET 7,(HL)`: CB FE, R271. -/
def execSet7MemHl (s : State) : Result := .next (bitSet 7 .memHl s)

/-- `SET 7,A`: CB FF, R271. -/
def execSet7A (s : State) : Result := .next (bitSet 7 (.reg .a) s)

end Sys2Proof.Machine
end

