-- ==== Sys2Proof/Machine/Illegal.lean ====
section
/-! DEFINITION. The rows `(unknown)` and `prefix_CB` (spec/30_encoding.md R87, R95, R96; spec/60_exceptions.md R300, R301). -/

namespace Sys2Proof.Machine

/-- Bits 5:3 of an opcode byte, `y` (R90). -/
def fieldY (op : Byte) : Nat := op.toNat / 8 % 8

/-- Bits 2:0 of an opcode byte, `z` (R90). -/
def fieldZ (op : Byte) : Nat := op.toNat % 8

/-- The table `r[]` read by `z` (R90). -/
def locOf (z : Nat) : Loc8 :=
  match z with
  | 0 => .reg .b
  | 1 => .reg .c
  | 2 => .reg .d
  | 3 => .reg .e
  | 4 => .reg .h
  | 5 => .reg .l
  | 6 => .memHl
  | _ => .reg .a

/-- The table `rot[]` read by `y` (R90). -/
def rotOf (y : Nat) : RotOp :=
  match y with
  | 0 => .rlc
  | 1 => .rrc
  | 2 => .rl
  | 3 => .rr
  | 4 => .sla
  | 5 => .sra
  | 6 => .swap
  | _ => .srl

/-- The operation of a second byte by its structure: `x = 0` `rot[y]`, `1` BIT, `2` RES, `3` SET (R94, R260). -/
def cbOpOf (op2 : Byte) : CbOp :=
  match op2.toNat / 64 with
  | 0 => .rot (rotOf (fieldY op2))
  | 1 => .bit (Fin.ofNat 8 (fieldY op2))
  | 2 => .res (Fin.ofNat 8 (fieldY op2))
  | _ => .set (Fin.ofNat 8 (fieldY op2))

/-- A prefixed operation on its operand (R260); `RLC r` is the source's Rlc, with its profile (R132). -/
def runCb (op : CbOp) (x : Loc8) (s : State) : State :=
  match op, x with
  | .rot .rlc, .reg r => rlcReg r s
  | .rot o, x => rotate o x s
  | .bit b, x => bitTest b x s
  | .res b, x => bitRes b x s
  | .set b, x => bitSet b x s

/-! ## One meaning per instruction -/

/-- `(unknown)`: the byte has no Instruction, so executing it takes the exception (R96, R113, R301). -/
def execUnknown (op : Byte) (s : State) : Result := .next (raiseIllegal op false s)

/-- `(prefix CB)`: the second byte is looked up in the prefixed table under TABLE and executed, or, where TABLE leaves it
unknown, reported with the prefixed flag (R87, R95, R111, R302; DESIGN CHOICE, log 6). -/
def execPrefixCB (op2 : Byte) (s : State) : Result :=
  if s.cfg.table.assigns op2 true then .next (runCb (cbOpOf op2) (locOf (fieldZ op2)) s)
  else .next (raiseIllegal op2 true s)

end Sys2Proof.Machine
end

