-- ==== Sys2Proof/Machine/Load16.lean ====
section
/-! DEFINITION. The 16-bit loads and the stack (spec/43_ext_loads_16bit_stack.md). -/

namespace Sys2Proof.Machine

/-- `LD rr,nn` (R180). -/
def ldPairImm (p : Rp) (s : State) : State := (s.setPair p.toReg16 s.imm16).advance 3

/-- `LD (nn),SP` (R181). -/
def ldMemNnSp (s : State) : State := (s.store16 s.imm16 s.sp).advance 3

/-- `LD SP,HL` (R182). -/
def ldSpHl (s : State) : State := (s.setPair .sp s.hl).advance 1

/-- `LD HL,SP+d` (R183). -/
def ldHlSpDisp (s : State) : State :=
  ((s.setPair .hl (s.sp + sext16 s.imm8)).setFlags (spDispFlags s.sp s.imm8)).advance 2

/-- `PUSH rr` (R184). -/
def push (p : Rp2) (s : State) : State := (s.push16 (s.pair p.toReg16)).advance 1

/-- `POP rr` (R185). -/
def pop (p : Rp2) (s : State) : State := (s.drop16.setPair p.toReg16 s.top16).advance 1

/-! ## One meaning per instruction -/

/-- `LD BC,nn`: 01 lo hi, R180. -/
def execLdBcNn (s : State) : Result := .next (ldPairImm .bc s)

/-- `LD (nn),SP`: 08 lo hi, R181. -/
def execLdMemNnSp (s : State) : Result := .next (ldMemNnSp s)

/-- `LD DE,nn`: 11 lo hi, R180. -/
def execLdDeNn (s : State) : Result := .next (ldPairImm .de s)

/-- `LD HL,nn`: 21 lo hi, R180. -/
def execLdHlNn (s : State) : Result := .next (ldPairImm .hl s)

/-- `LD SP,nn`: 31 lo hi, R180. -/
def execLdSpNn (s : State) : Result := .next (ldPairImm .sp s)

/-- `POP BC`: C1, R185. -/
def execPopBc (s : State) : Result := .next (pop .bc s)

/-- `PUSH BC`: C5, R184. -/
def execPushBc (s : State) : Result := .next (push .bc s)

/-- `POP DE`: D1, R185. -/
def execPopDe (s : State) : Result := .next (pop .de s)

/-- `PUSH DE`: D5, R184. -/
def execPushDe (s : State) : Result := .next (push .de s)

/-- `POP HL`: E1, R185. -/
def execPopHl (s : State) : Result := .next (pop .hl s)

/-- `PUSH HL`: E5, R184. -/
def execPushHl (s : State) : Result := .next (push .hl s)

/-- `POP AF`: F1, R185. -/
def execPopAf (s : State) : Result := .next (pop .af s)

/-- `PUSH AF`: F5, R184. -/
def execPushAf (s : State) : Result := .next (push .af s)

/-- `LD HL,SP+d`: F8 d, R183. -/
def execLdHlSpDisp (s : State) : Result := .next (ldHlSpDisp s)

/-- `LD SP,HL`: F9, R182. -/
def execLdSpHl (s : State) : Result := .next (ldSpHl s)

end Sys2Proof.Machine
end

