-- ==== Sys2Proof/Machine/Load8.lean ====
section
/-! DEFINITION. The 8-bit loads and stores (spec/42_ext_loads_8bit.md). None writes a flag. -/

namespace Sys2Proof.Machine

/-- `LD rd,rs` (R150). -/
def ldRegReg (rd rs : Reg8) (s : State) : State := (s.setReg rd (s.reg rs)).advance 1

/-- `LD r,(HL)` (R151); the address is HL before the write. -/
def ldRegMemHl (r : Reg8) (s : State) : State := (s.setReg r (s.load8 s.hl)).advance 1

/-- `LD (HL),r` (R152). -/
def ldMemHlReg (r : Reg8) (s : State) : State := (s.store8 s.hl (s.reg r)).advance 1

/-- `LD r,n` (R153). -/
def ldRegImm (r : Reg8) (s : State) : State := (s.setReg r s.imm8).advance 2

/-- `LD (HL),n` (R154). -/
def ldMemHlImm (s : State) : State := (s.store8 s.hl s.imm8).advance 2

/-- `LD A,(rr)` (R155, R156). -/
def ldAMemPair (rr : Reg16) (s : State) : State := (s.setReg .a (s.load8 (s.pair rr))).advance 1

/-- `LD (rr),A` (R157). -/
def ldMemPairA (rr : Reg16) (s : State) : State := (s.store8 (s.pair rr) s.a).advance 1

/-- `LD A,(nn)` (R158). -/
def ldAMemNn (s : State) : State := (s.setReg .a (s.load8 s.imm16)).advance 3

/-- `LD (nn),A` (R159). -/
def ldMemNnA (s : State) : State := (s.store8 s.imm16 s.a).advance 3

/-- `LDH A,(n)` (R160). -/
def ldhAMemN (s : State) : State := (s.setReg .a (s.load8 (pageAddr s.imm8))).advance 2

/-- `LDH (n),A` (R161). -/
def ldhMemNA (s : State) : State := (s.store8 (pageAddr s.imm8) s.a).advance 2

/-- `LD A,(C)` (R162). -/
def ldAMemC (s : State) : State := (s.setReg .a (s.load8 (pageAddr s.c))).advance 1

/-- `LD (C),A` (R163). -/
def ldMemCA (s : State) : State := (s.store8 (pageAddr s.c) s.a).advance 1

/-- `LD (HL+),A` (R164); the address is HL before the increment. -/
def ldMemHliA (s : State) : State := ((s.store8 s.hl s.a).setPair .hl (s.hl + 1)).advance 1

/-- `LD A,(HL+)` (R165). -/
def ldAMemHli (s : State) : State := ((s.setReg .a (s.load8 s.hl)).setPair .hl (s.hl + 1)).advance 1

/-- `LD (HL-),A` (R166). -/
def ldMemHldA (s : State) : State := ((s.store8 s.hl s.a).setPair .hl (s.hl - 1)).advance 1

/-- `LD A,(HL-)` (R167). -/
def ldAMemHld (s : State) : State := ((s.setReg .a (s.load8 s.hl)).setPair .hl (s.hl - 1)).advance 1

/-! ## One meaning per instruction -/

/-- `LD B,n`: 06 n, R153. -/
def execLdBN (s : State) : Result := .next (ldRegImm .b s)

/-- `LD A,(BC)`: 0A, R155. -/
def execLdAMemBc (s : State) : Result := .next (ldAMemPair .bc s)

/-- `LD C,n`: 0E n, R153. -/
def execLdCN (s : State) : Result := .next (ldRegImm .c s)

/-- `LD (DE),A`: 12, R157. -/
def execLdMemDeA (s : State) : Result := .next (ldMemPairA .de s)

/-- `LD D,n`: 16 n, R153. -/
def execLdDN (s : State) : Result := .next (ldRegImm .d s)

/-- `LD A,(DE)`: 1A, R156. -/
def execLdAMemDe (s : State) : Result := .next (ldAMemPair .de s)

/-- `LD E,n`: 1E n, R153. -/
def execLdEN (s : State) : Result := .next (ldRegImm .e s)

/-- `LD (HL+),A`: 22, R164. -/
def execLdMemHliA (s : State) : Result := .next (ldMemHliA s)

/-- `LD H,n`: 26 n, R153. -/
def execLdHN (s : State) : Result := .next (ldRegImm .h s)

/-- `LD A,(HL+)`: 2A, R165. -/
def execLdAMemHli (s : State) : Result := .next (ldAMemHli s)

/-- `LD L,n`: 2E n, R153. -/
def execLdLN (s : State) : Result := .next (ldRegImm .l s)

/-- `LD (HL-),A`: 32, R166. -/
def execLdMemHldA (s : State) : Result := .next (ldMemHldA s)

/-- `LD (HL),n`: 36 n, R154. -/
def execLdMemHlN (s : State) : Result := .next (ldMemHlImm s)

/-- `LD A,(HL-)`: 3A, R167. -/
def execLdAMemHld (s : State) : Result := .next (ldAMemHld s)

/-- `LD A,n`: 3E n, R153. -/
def execLdAN (s : State) : Result := .next (ldRegImm .a s)

/-- `LD B,B`: 40, R150. -/
def execLdBB (s : State) : Result := .next (ldRegReg .b .b s)

/-- `LD B,C`: 41, R150. -/
def execLdBC (s : State) : Result := .next (ldRegReg .b .c s)

/-- `LD B,D`: 42, R150. -/
def execLdBD (s : State) : Result := .next (ldRegReg .b .d s)

/-- `LD B,E`: 43, R150. -/
def execLdBE (s : State) : Result := .next (ldRegReg .b .e s)

/-- `LD B,H`: 44, R150. -/
def execLdBH (s : State) : Result := .next (ldRegReg .b .h s)

/-- `LD B,L`: 45, R150. -/
def execLdBL (s : State) : Result := .next (ldRegReg .b .l s)

/-- `LD B,(HL)`: 46, R151. -/
def execLdBMemHl (s : State) : Result := .next (ldRegMemHl .b s)

/-- `LD B,A`: 47, R150. -/
def execLdBA (s : State) : Result := .next (ldRegReg .b .a s)

/-- `LD C,B`: 48, R150. -/
def execLdCB (s : State) : Result := .next (ldRegReg .c .b s)

/-- `LD C,C`: 49, R150. -/
def execLdCC (s : State) : Result := .next (ldRegReg .c .c s)

/-- `LD C,D`: 4A, R150. -/
def execLdCD (s : State) : Result := .next (ldRegReg .c .d s)

/-- `LD C,E`: 4B, R150. -/
def execLdCE (s : State) : Result := .next (ldRegReg .c .e s)

/-- `LD C,H`: 4C, R150. -/
def execLdCH (s : State) : Result := .next (ldRegReg .c .h s)

/-- `LD C,L`: 4D, R150. -/
def execLdCL (s : State) : Result := .next (ldRegReg .c .l s)

/-- `LD C,(HL)`: 4E, R151. -/
def execLdCMemHl (s : State) : Result := .next (ldRegMemHl .c s)

/-- `LD C,A`: 4F, R150. -/
def execLdCA (s : State) : Result := .next (ldRegReg .c .a s)

/-- `LD D,B`: 50, R150. -/
def execLdDB (s : State) : Result := .next (ldRegReg .d .b s)

/-- `LD D,C`: 51, R150. -/
def execLdDC (s : State) : Result := .next (ldRegReg .d .c s)

/-- `LD D,D`: 52, R150. -/
def execLdDD (s : State) : Result := .next (ldRegReg .d .d s)

/-- `LD D,E`: 53, R150. -/
def execLdDE (s : State) : Result := .next (ldRegReg .d .e s)

/-- `LD D,H`: 54, R150. -/
def execLdDH (s : State) : Result := .next (ldRegReg .d .h s)

/-- `LD D,L`: 55, R150. -/
def execLdDL (s : State) : Result := .next (ldRegReg .d .l s)

/-- `LD D,(HL)`: 56, R151. -/
def execLdDMemHl (s : State) : Result := .next (ldRegMemHl .d s)

/-- `LD D,A`: 57, R150. -/
def execLdDA (s : State) : Result := .next (ldRegReg .d .a s)

/-- `LD E,B`: 58, R150. -/
def execLdEB (s : State) : Result := .next (ldRegReg .e .b s)

/-- `LD E,C`: 59, R150. -/
def execLdEC (s : State) : Result := .next (ldRegReg .e .c s)

/-- `LD E,D`: 5A, R150. -/
def execLdED (s : State) : Result := .next (ldRegReg .e .d s)

/-- `LD E,E`: 5B, R150. -/
def execLdEE (s : State) : Result := .next (ldRegReg .e .e s)

/-- `LD E,H`: 5C, R150. -/
def execLdEH (s : State) : Result := .next (ldRegReg .e .h s)

/-- `LD E,L`: 5D, R150. -/
def execLdEL (s : State) : Result := .next (ldRegReg .e .l s)

/-- `LD E,(HL)`: 5E, R151. -/
def execLdEMemHl (s : State) : Result := .next (ldRegMemHl .e s)

/-- `LD E,A`: 5F, R150. -/
def execLdEA (s : State) : Result := .next (ldRegReg .e .a s)

/-- `LD H,B`: 60, R150. -/
def execLdHB (s : State) : Result := .next (ldRegReg .h .b s)

/-- `LD H,C`: 61, R150. -/
def execLdHC (s : State) : Result := .next (ldRegReg .h .c s)

/-- `LD H,D`: 62, R150. -/
def execLdHD (s : State) : Result := .next (ldRegReg .h .d s)

/-- `LD H,E`: 63, R150. -/
def execLdHE (s : State) : Result := .next (ldRegReg .h .e s)

/-- `LD H,H`: 64, R150. -/
def execLdHH (s : State) : Result := .next (ldRegReg .h .h s)

/-- `LD H,L`: 65, R150. -/
def execLdHL (s : State) : Result := .next (ldRegReg .h .l s)

/-- `LD H,(HL)`: 66, R151. -/
def execLdHMemHl (s : State) : Result := .next (ldRegMemHl .h s)

/-- `LD H,A`: 67, R150. -/
def execLdHA (s : State) : Result := .next (ldRegReg .h .a s)

/-- `LD L,B`: 68, R150. -/
def execLdLB (s : State) : Result := .next (ldRegReg .l .b s)

/-- `LD L,C`: 69, R150. -/
def execLdLC (s : State) : Result := .next (ldRegReg .l .c s)

/-- `LD L,D`: 6A, R150. -/
def execLdLD (s : State) : Result := .next (ldRegReg .l .d s)

/-- `LD L,E`: 6B, R150. -/
def execLdLE (s : State) : Result := .next (ldRegReg .l .e s)

/-- `LD L,H`: 6C, R150. -/
def execLdLH (s : State) : Result := .next (ldRegReg .l .h s)

/-- `LD L,L`: 6D, R150. -/
def execLdLL (s : State) : Result := .next (ldRegReg .l .l s)

/-- `LD L,(HL)`: 6E, R151. -/
def execLdLMemHl (s : State) : Result := .next (ldRegMemHl .l s)

/-- `LD L,A`: 6F, R150. -/
def execLdLA (s : State) : Result := .next (ldRegReg .l .a s)

/-- `LD (HL),B`: 70, R152. -/
def execLdMemHlB (s : State) : Result := .next (ldMemHlReg .b s)

/-- `LD (HL),C`: 71, R152. -/
def execLdMemHlC (s : State) : Result := .next (ldMemHlReg .c s)

/-- `LD (HL),D`: 72, R152. -/
def execLdMemHlD (s : State) : Result := .next (ldMemHlReg .d s)

/-- `LD (HL),E`: 73, R152. -/
def execLdMemHlE (s : State) : Result := .next (ldMemHlReg .e s)

/-- `LD (HL),H`: 74, R152. -/
def execLdMemHlH (s : State) : Result := .next (ldMemHlReg .h s)

/-- `LD (HL),L`: 75, R152. -/
def execLdMemHlL (s : State) : Result := .next (ldMemHlReg .l s)

/-- `LD (HL),A`: 77, R152. -/
def execLdMemHlA (s : State) : Result := .next (ldMemHlReg .a s)

/-- `LD A,B`: 78, R150. -/
def execLdAB (s : State) : Result := .next (ldRegReg .a .b s)

/-- `LD A,C`: 79, R150. -/
def execLdAC (s : State) : Result := .next (ldRegReg .a .c s)

/-- `LD A,D`: 7A, R150. -/
def execLdAD (s : State) : Result := .next (ldRegReg .a .d s)

/-- `LD A,E`: 7B, R150. -/
def execLdAE (s : State) : Result := .next (ldRegReg .a .e s)

/-- `LD A,H`: 7C, R150. -/
def execLdAH (s : State) : Result := .next (ldRegReg .a .h s)

/-- `LD A,L`: 7D, R150. -/
def execLdAL (s : State) : Result := .next (ldRegReg .a .l s)

/-- `LD A,(HL)`: 7E, R151. -/
def execLdAMemHl (s : State) : Result := .next (ldRegMemHl .a s)

/-- `LD A,A`: 7F, R150. -/
def execLdAA (s : State) : Result := .next (ldRegReg .a .a s)

/-- `LDH (n),A`: E0 n, R161. -/
def execLdhMemNA (s : State) : Result := .next (ldhMemNA s)

/-- `LD (C),A`: E2, R163. -/
def execLdMemCA (s : State) : Result := .next (ldMemCA s)

/-- `LD (nn),A`: EA lo hi, R159. -/
def execLdMemNnA (s : State) : Result := .next (ldMemNnA s)

/-- `LDH A,(n)`: F0 n, R160. -/
def execLdhAMemN (s : State) : Result := .next (ldhAMemN s)

/-- `LD A,(C)`: F2, R162. -/
def execLdAMemC (s : State) : Result := .next (ldAMemC s)

/-- `LD A,(nn)`: FA lo hi, R158. -/
def execLdAMemNn (s : State) : Result := .next (ldAMemNn s)

end Sys2Proof.Machine
end

