-- ==== Sys2Proof/Machine/Misc.lean ====
section
/-! DEFINITION. Accumulator rotates, decimal adjust, flag operations, NOP (spec/46_ext_rotates_misc.md). -/

namespace Sys2Proof.Machine

/-- `NOP` (R240). -/
def nop (s : State) : State := s.advance 1

/-- RLCA, RRCA, RLA, RRA (R241 to R244). -/
def rotA (op : RotOp) (s : State) : State :=
  ((s.setReg .a (rotByte op s.a s.f.c)).setFlags (rotAFlags op s.a)).advance 1

/-- `DAA` (R245). -/
def daa (s : State) : State := ((s.setReg .a (daaByte s.a s.f)).setFlags (daaFlags s.a s.f)).advance 1

/-- `CPL` (R246). -/
def cpl (s : State) : State :=
  ((s.setReg .a (~~~s.a)).setFlags { s.f with n := true, h := true }).advance 1

/-- `SCF` (R247). -/
def scf (s : State) : State := (s.setFlags { s.f with n := false, h := false, c := true }).advance 1

/-- `CCF` (R248). -/
def ccf (s : State) : State := (s.setFlags { s.f with n := false, h := false, c := !s.f.c }).advance 1

/-! ## One meaning per instruction -/

/-- `NOP`: 00, R240. -/
def execNop (s : State) : Result := .next (nop s)

/-- `RLCA`: 07, R241. -/
def execRlca (s : State) : Result := .next (rotA .rlc s)

/-- `RRCA`: 0F, R242. -/
def execRrca (s : State) : Result := .next (rotA .rrc s)

/-- `RLA`: 17, R243. -/
def execRla (s : State) : Result := .next (rotA .rl s)

/-- `RRA`: 1F, R244. -/
def execRra (s : State) : Result := .next (rotA .rr s)

/-- `DAA`: 27, R245. -/
def execDaa (s : State) : Result := .next (daa s)

/-- `CPL`: 2F, R246. -/
def execCpl (s : State) : Result := .next (cpl s)

/-- `SCF`: 37, R247. -/
def execScf (s : State) : Result := .next (scf s)

/-- `CCF`: 3F, R248. -/
def execCcf (s : State) : Result := .next (ccf s)

end Sys2Proof.Machine
end

