-- ==== Sys2Proof/WellFormed.lean ====
section
/-! DEFINITION. Which terms of `Instr` a decoder under a given TABLE can answer (spec/30_encoding.md R87, R91 to R96). -/

namespace Sys2Proof

/-- `unknown op` stands for a byte the unprefixed table leaves unknown; 0xCB is not one, since fetch consumes it (R87, R95).
`prefixCB op2` stands for a second byte the prefixed table leaves unknown, so there is none under `T_full` (R96).
Every other instruction must have its tier in TABLE (R7, R91, R92). -/
def wellFormed (t : Table) (i : Instr) : Bool :=
  match i.kind with
  | .unknown op => op != 0xCB && !t.assigns op false
  | .marker op2 => !t.assigns op2 true
  | k => t.holds k.tier

/-- The check as a proposition. -/
abbrev WellFormed (t : Table) (i : Instr) : Prop := wellFormed t i = true

end Sys2Proof
end

