-- ==== Sys2Proof/Decode.lean ====
section
/-! DEFINITION. The decoder and the encoder. The decoder reads the two 16 by 16 grids of spec/30_encoding.md (R93, R94)
cell by cell and filters them by TABLE (R95). The encoder is written from the encoding lines of the instruction rules
(R130 to R133, R150 to R287) and the selector indices of R90, not from the grids. -/

namespace Sys2Proof

/-- Row 0x of the unprefixed grid (R93). -/
def plainRow0 : List Instr :=
  [.nop, .ldBcNn, .incBc, .incBc,
   .incB, .decB, .ldBN, .rlca,
   .ldMemNnSp, .addHlBc, .ldAMemBc, .decBc,
   .incC, .decC, .ldCN, .rrca]

/-- Row 1x of the unprefixed grid (R93). -/
def plainRow1 : List Instr :=
  [.unknown 0x10, .ldDeNn, .ldMemDeA, .incDe,
   .incD, .decD, .ldDN, .rla,
   .jrDisp, .addHlDe, .ldAMemDe, .decDe,
   .incE, .decE, .ldEN, .rra]

/-- Row 2x of the unprefixed grid (R93). -/
def plainRow2 : List Instr :=
  [.jrNzDisp, .ldHlNn, .ldMemHliA, .incHl,
   .incH, .decH, .ldHN, .daa,
   .jrZDisp, .addHlHl, .ldAMemHli, .decHl,
   .incL, .decL, .ldLN, .cpl]

/-- Row 3x of the unprefixed grid (R93). -/
def plainRow3 : List Instr :=
  [.jrNcDisp, .ldSpNn, .ldMemHldA, .incSp,
   .incMemHl, .decMemHl, .ldMemHlN, .scf,
   .jrCDisp, .addHlSp, .ldAMemHld, .decSp,
   .incA, .decA, .ldAN, .ccf]

/-- Row 4x of the unprefixed grid (R93). -/
def plainRow4 : List Instr :=
  [.ldBB, .ldBC, .ldBD, .ldBE,
   .ldBH, .ldBL, .ldBMemHl, .ldBA,
   .ldCB, .ldCC, .ldCD, .ldCE,
   .ldCH, .ldCL, .ldCMemHl, .ldCA]

/-- Row 5x of the unprefixed grid (R93). -/
def plainRow5 : List Instr :=
  [.ldDB, .ldDC, .ldDD, .ldDE,
   .ldDH, .ldDL, .ldDMemHl, .ldDA,
   .ldEB, .ldEC, .ldED, .ldEE,
   .ldEH, .ldEL, .ldEMemHl, .ldEA]

/-- Row 6x of the unprefixed grid (R93). -/
def plainRow6 : List Instr :=
  [.ldHB, .ldHC, .ldHD, .ldHE,
   .ldHH, .ldHL, .ldHMemHl, .ldHA,
   .ldLB, .ldLC, .ldLD, .ldLE,
   .ldLH, .ldLL, .ldLMemHl, .ldLA]

/-- Row 7x of the unprefixed grid (R93). -/
def plainRow7 : List Instr :=
  [.ldMemHlB, .ldMemHlC, .ldMemHlD, .ldMemHlE,
   .ldMemHlH, .ldMemHlL, .unknown 0x76, .ldMemHlA,
   .ldAB, .ldAC, .ldAD, .ldAE,
   .ldAH, .ldAL, .ldAMemHl, .ldAA]

/-- Row 8x of the unprefixed grid (R93). -/
def plainRow8 : List Instr :=
  [.addAB, .addAC, .addAD, .addAE,
   .addAH, .addAL, .addAMemHl, .addAA,
   .adcAB, .adcAC, .adcAD, .adcAE,
   .adcAH, .adcAL, .adcAMemHl, .adcAA]

/-- Row 9x of the unprefixed grid (R93). -/
def plainRow9 : List Instr :=
  [.subAB, .subAC, .subAD, .subAE,
   .subAH, .subAL, .subAMemHl, .subAA,
   .sbcAB, .sbcAC, .sbcAD, .sbcAE,
   .sbcAH, .sbcAL, .sbcAMemHl, .sbcAA]

/-- Row Ax of the unprefixed grid (R93). -/
def plainRowA : List Instr :=
  [.andAB, .andAC, .andAD, .andAE,
   .andAH, .andAL, .andAMemHl, .andAA,
   .xorAB, .xorAC, .xorAD, .xorAE,
   .xorAH, .xorAL, .xorAMemHl, .xorAA]

/-- Row Bx of the unprefixed grid (R93). -/
def plainRowB : List Instr :=
  [.orAB, .orAC, .orAD, .orAE,
   .orAH, .orAL, .orAMemHl, .orAA,
   .cpAB, .cpAC, .cpAD, .cpAE,
   .cpAH, .cpAL, .cpAMemHl, .cpAA]

/-- Row Cx of the unprefixed grid (R93). -/
def plainRowC : List Instr :=
  [.retNz, .popBc, .jpNzNn, .jpNn,
   .callNzNn, .pushBc, .addAN, .rst00H,
   .retZ, .ret, .jpZNn, .unknown 0xCB,
   .callZNn, .callNn, .adcAN, .rst08H]

/-- Row Dx of the unprefixed grid (R93). -/
def plainRowD : List Instr :=
  [.retNc, .popDe, .jpNcNn, .unknown 0xD3,
   .callNcNn, .pushDe, .subAN, .rst10H,
   .retC, .unknown 0xD9, .jpCNn, .unknown 0xDB,
   .callCNn, .unknown 0xDD, .sbcAN, .rst18H]

/-- Row Ex of the unprefixed grid (R93). -/
def plainRowE : List Instr :=
  [.ldhMemNA, .popHl, .ldMemCA, .unknown 0xE3,
   .unknown 0xE4, .pushHl, .andAN, .rst20H,
   .addSpDisp, .jpHl, .ldMemNnA, .unknown 0xEB,
   .unknown 0xEC, .unknown 0xED, .xorAN, .rst28H]

/-- Row Fx of the unprefixed grid (R93). -/
def plainRowF : List Instr :=
  [.ldhAMemN, .popAf, .ldAMemC, .unknown 0xF3,
   .unknown 0xF4, .pushAf, .orAN, .rst30H,
   .ldHlSpDisp, .ldSpHl, .ldAMemNn, .unknown 0xFB,
   .unknown 0xFC, .unknown 0xFD, .cpAN, .unknown 0xFF]

/-- Row 0x of the prefixed grid (R94). -/
def markedRow0 : List Instr :=
  [.rlcB, .rlcC, .rlcD, .rlcE,
   .rlcH, .rlcL, .rlcMemHl, .rlcA,
   .rrcB, .rrcC, .rrcD, .rrcE,
   .rrcH, .rrcL, .rrcMemHl, .rrcA]

/-- Row 1x of the prefixed grid (R94). -/
def markedRow1 : List Instr :=
  [.rlB, .rlC, .rlD, .rlE,
   .rlH, .rlL, .rlMemHl, .rlA,
   .rrB, .rrC, .rrD, .rrE,
   .rrH, .rrL, .rrMemHl, .rrA]

/-- Row 2x of the prefixed grid (R94). -/
def markedRow2 : List Instr :=
  [.slaB, .slaC, .slaD, .slaE,
   .slaH, .slaL, .slaMemHl, .slaA,
   .sraB, .sraC, .sraD, .sraE,
   .sraH, .sraL, .sraMemHl, .sraA]

/-- Row 3x of the prefixed grid (R94). -/
def markedRow3 : List Instr :=
  [.swapB, .swapC, .swapD, .swapE,
   .swapH, .swapL, .swapMemHl, .swapA,
   .srlB, .srlC, .srlD, .srlE,
   .srlH, .srlL, .srlMemHl, .srlA]

/-- Row 4x of the prefixed grid (R94). -/
def markedRow4 : List Instr :=
  [.bit0B, .bit0C, .bit0D, .bit0E,
   .bit0H, .bit0L, .bit0MemHl, .bit0A,
   .bit1B, .bit1C, .bit1D, .bit1E,
   .bit1H, .bit1L, .bit1MemHl, .bit1A]

/-- Row 5x of the prefixed grid (R94). -/
def markedRow5 : List Instr :=
  [.bit2B, .bit2C, .bit2D, .bit2E,
   .bit2H, .bit2L, .bit2MemHl, .bit2A,
   .bit3B, .bit3C, .bit3D, .bit3E,
   .bit3H, .bit3L, .bit3MemHl, .bit3A]

/-- Row 6x of the prefixed grid (R94). -/
def markedRow6 : List Instr :=
  [.bit4B, .bit4C, .bit4D, .bit4E,
   .bit4H, .bit4L, .bit4MemHl, .bit4A,
   .bit5B, .bit5C, .bit5D, .bit5E,
   .bit5H, .bit5L, .bit5MemHl, .bit5A]

/-- Row 7x of the prefixed grid (R94). -/
def markedRow7 : List Instr :=
  [.bit6B, .bit6C, .bit6D, .bit6E,
   .bit6H, .bit6L, .bit6MemHl, .bit6A,
   .bit7B, .bit7C, .bit7D, .bit7E,
   .bit7H, .bit7L, .bit7MemHl, .bit7A]

/-- Row 8x of the prefixed grid (R94). -/
def markedRow8 : List Instr :=
  [.res0B, .res0C, .res0D, .res0E,
   .res0H, .res0L, .res0MemHl, .res0A,
   .res1B, .res1C, .res1D, .res1E,
   .res1H, .res1L, .res1MemHl, .res1A]

/-- Row 9x of the prefixed grid (R94). -/
def markedRow9 : List Instr :=
  [.res2B, .res2C, .res2D, .res2E,
   .res2H, .res2L, .res2MemHl, .res2A,
   .res3B, .res3C, .res3D, .res3E,
   .res3H, .res3L, .res3MemHl, .res3A]

/-- Row Ax of the prefixed grid (R94). -/
def markedRowA : List Instr :=
  [.res4B, .res4C, .res4D, .res4E,
   .res4H, .res4L, .res4MemHl, .res4A,
   .res5B, .res5C, .res5D, .res5E,
   .res5H, .res5L, .res5MemHl, .res5A]

/-- Row Bx of the prefixed grid (R94). -/
def markedRowB : List Instr :=
  [.res6B, .res6C, .res6D, .res6E,
   .res6H, .res6L, .res6MemHl, .res6A,
   .res7B, .res7C, .res7D, .res7E,
   .res7H, .res7L, .res7MemHl, .res7A]

/-- Row Cx of the prefixed grid (R94). -/
def markedRowC : List Instr :=
  [.set0B, .set0C, .set0D, .set0E,
   .set0H, .set0L, .set0MemHl, .set0A,
   .set1B, .set1C, .set1D, .set1E,
   .set1H, .set1L, .set1MemHl, .set1A]

/-- Row Dx of the prefixed grid (R94). -/
def markedRowD : List Instr :=
  [.set2B, .set2C, .set2D, .set2E,
   .set2H, .set2L, .set2MemHl, .set2A,
   .set3B, .set3C, .set3D, .set3E,
   .set3H, .set3L, .set3MemHl, .set3A]

/-- Row Ex of the prefixed grid (R94). -/
def markedRowE : List Instr :=
  [.set4B, .set4C, .set4D, .set4E,
   .set4H, .set4L, .set4MemHl, .set4A,
   .set5B, .set5C, .set5D, .set5E,
   .set5H, .set5L, .set5MemHl, .set5A]

/-- Row Fx of the prefixed grid (R94). -/
def markedRowF : List Instr :=
  [.set6B, .set6C, .set6D, .set6E,
   .set6H, .set6L, .set6MemHl, .set6A,
   .set7B, .set7C, .set7D, .set7E,
   .set7H, .set7L, .set7MemHl, .set7A]

/-- The unprefixed grid (R93) with the source's cells (R91) and the decided cells (R92) in their places. -/
def plainGrid : List Instr :=
  plainRow0 ++ plainRow1 ++ plainRow2 ++ plainRow3 ++ plainRow4 ++ plainRow5 ++ plainRow6 ++ plainRow7 ++
  plainRow8 ++ plainRow9 ++ plainRowA ++ plainRowB ++ plainRowC ++ plainRowD ++ plainRowE ++ plainRowF

/-- The prefixed grid (R94). -/
def markedGrid : List Instr :=
  markedRow0 ++ markedRow1 ++ markedRow2 ++ markedRow3 ++ markedRow4 ++ markedRow5 ++ markedRow6 ++ markedRow7 ++
  markedRow8 ++ markedRow9 ++ markedRowA ++ markedRowB ++ markedRowC ++ markedRowD ++ markedRowE ++ markedRowF

/-- The cell of a grid. Both grids have 256 entries, so the default is never read. -/
def gridCell (op : Byte) (prefixed : Bool) : Instr :=
  if prefixed then markedGrid.getD op.toNat (.prefixCB op) else plainGrid.getD op.toNat (.unknown op)

/-- `Decode(op, prefixed)` (R89, R95): a pure total function of the two values fetch hands it. Its answer "unknown" is
`unknown op`, and for the prefixed table `prefixCB op` (DESIGN CHOICE, log 5, log 6). -/
def decodeCell (t : Table) (op : Byte) (prefixed : Bool) : Instr :=
  if t.assigns op prefixed then gridCell op prefixed
  else if prefixed then .prefixCB op else .unknown op

/-- Why a byte list holds no whole opcode. Fetch never meets either: memory has a byte at every address (DESIGN CHOICE, log 12). -/
inductive DecodeError where
  /-- No byte at all. -/
  | noByte
  /-- The marker 0xCB with no byte after it. -/
  | loneMarker
  deriving DecidableEq, Repr

/-- The decoder on any bytes (R80, R87, R111): the Instruction and the bytes after its opcode. -/
def decode (t : Table) : List Byte → Except DecodeError (Instr × List Byte)
  | [] => .error .noByte
  | b0 :: rest =>
    if b0 = 0xCB then
      match rest with
      | [] => .error .loneMarker
      | op :: rest' => .ok (decodeCell t op true, rest')
    else .ok (decodeCell t b0 false, rest)

/-- Index of a condition in `cc[]` (R90); `always` has a byte of its own, not an index. -/
def Cond.index : Cond → Nat
  | .notZero => 0
  | .zero => 1
  | .notCarry => 2
  | .carry => 3
  | .always => 0

/-- The opcode byte of a conditional transfer: `base + 8 * cc`, or the byte of its unconditional form. -/
def Cond.byte (cc : Cond) (base always : Nat) : Byte :=
  if cc = .always then BitVec.ofNat 8 always else BitVec.ofNat 8 (base + 8 * cc.index)

/-- The opcode byte of an accumulator operation (R200). -/
def aluByte (op : AluOp) : Operand8 → Byte
  | .reg r => BitVec.ofNat 8 (0x80 + 8 * op.index + r.index)
  | .memHl => BitVec.ofNat 8 (0x86 + 8 * op.index)
  | .imm => BitVec.ofNat 8 (0xC6 + 8 * op.index)

/-- The second byte of a prefixed instruction, `0x40 * x + 8 * y + z` (R94, R260). -/
def cbByte (op : CbOp) (x : Loc8) : Byte :=
  match op with
  | .rot o => BitVec.ofNat 8 (8 * o.index + x.index)
  | .bit b => BitVec.ofNat 8 (0x40 + 8 * b.val + x.index)
  | .res b => BitVec.ofNat 8 (0x80 + 8 * b.val + x.index)
  | .set b => BitVec.ofNat 8 (0xC0 + 8 * b.val + x.index)

/-- The opcode bytes of an Instruction. Of the two bytes of `Inc(BC)` the encoder writes the source's, 0x02 (R101; DESIGN CHOICE, log 9). -/
def Kind.encode : Kind → List Byte
  | .nop => [0x00]
  | .ldPairImm p => [BitVec.ofNat 8 (0x01 + 16 * p.index)]
  | .inc .bc => [0x02]
  | .inc p => [BitVec.ofNat 8 (0x03 + 16 * p.index)]
  | .inc8 x => [BitVec.ofNat 8 (0x04 + 8 * x.index)]
  | .dec8 x => [BitVec.ofNat 8 (0x05 + 8 * x.index)]
  | .ldRegImm r => [BitVec.ofNat 8 (0x06 + 8 * r.index)]
  | .ldMemHlImm => [0x36]
  | .rlca => [0x07]
  | .rrca => [0x0F]
  | .rla => [0x17]
  | .rra => [0x1F]
  | .daa => [0x27]
  | .cpl => [0x2F]
  | .scf => [0x37]
  | .ccf => [0x3F]
  | .ldMemNnSp => [0x08]
  | .addHl p => [BitVec.ofNat 8 (0x09 + 16 * p.index)]
  | .dec16 p => [BitVec.ofNat 8 (0x0B + 16 * p.index)]
  | .ldAMemBc => [0x0A]
  | .ldAMemDe => [0x1A]
  | .ldMemDeA => [0x12]
  | .ldMemHliA => [0x22]
  | .ldAMemHli => [0x2A]
  | .ldMemHldA => [0x32]
  | .ldAMemHld => [0x3A]
  | .ldRegReg rd rs => [BitVec.ofNat 8 (0x40 + 8 * rd.index + rs.index)]
  | .ldRegMemHl r => [BitVec.ofNat 8 (0x46 + 8 * r.index)]
  | .ldMemHlReg r => [BitVec.ofNat 8 (0x70 + r.index)]
  | .alu op v => [aluByte op v]
  | .jp cc => [cc.byte 0xC2 0xC3]
  | .jpHl => [0xE9]
  | .jr cc => [cc.byte 0x20 0x18]
  | .call cc => [cc.byte 0xC4 0xCD]
  | .ret cc => [cc.byte 0xC0 0xC9]
  | .rst t => [BitVec.ofNat 8 (0xC7 + 8 * t.val)]
  | .push p => [BitVec.ofNat 8 (0xC5 + 16 * p.index)]
  | .pop p => [BitVec.ofNat 8 (0xC1 + 16 * p.index)]
  | .ldhMemNA => [0xE0]
  | .ldhAMemN => [0xF0]
  | .ldMemCA => [0xE2]
  | .ldAMemC => [0xF2]
  | .ldMemNnA => [0xEA]
  | .ldAMemNn => [0xFA]
  | .addSpDisp => [0xE8]
  | .ldHlSpDisp => [0xF8]
  | .ldSpHl => [0xF9]
  | .cb op x => [0xCB, cbByte op x]
  | .marker op2 => [0xCB, op2]
  | .unknown op => [op]

/-- The opcode bytes of an instruction; its operand bytes, which it does not carry (R86), follow them. -/
def encode (i : Instr) : List Byte := i.kind.encode

/-- The bytes of an opcode-table word, lowest address first: byte `k` is bits `8k+7` to `8k`, and every bit above `nbits`
is 0. Three bytes, the longest instruction (R80). -/
def tableWordBytes (nbits w : Nat) : List Byte :=
  let v := w % 2 ^ nbits
  [BitVec.ofNat 8 v, BitVec.ofNat 8 (v / 2 ^ 8), BitVec.ofNat 8 (v / 2 ^ 16)]

/-- The instruction the decoder reads, under the default `T_full` (R8), from an opcode-table word (DEDUCED, log 10). -/
def decodeTableWord (nbits w : Nat) : Option Instr :=
  match decode .tFull (tableWordBytes nbits w) with
  | .ok (i, _) => some i
  | .error _ => none

end Sys2Proof
end

