-- ==== Sys2Proof/Machine/Fetch.lean ====
section
/-! DEFINITION. Fetch (spec/40_step_cycle.md R111), decode in a step (R112), and the loader's placing of one instruction. -/

namespace Sys2Proof.Machine

/-- Fetch (R111): the byte at `pc`, or after the marker 0xCB the byte at `pc +16 1`; the second component is the prefixed
flag, which does not outlive the step (R35). -/
def fetchOpcode (s : State) : Byte × Bool :=
  if s.load8 s.pc = 0xCB then (s.load8 (s.pc + 1), true) else (s.load8 s.pc, false)

/-- The Instruction of the next step (R112). -/
def fetchInstr (s : State) : Instr := decodeCell s.cfg.table (fetchOpcode s).1 (fetchOpcode s).2

/-- The loader places the bytes of an opcode-table word at `pc`, in a core that is not halted (R330, R333; DESIGN CHOICE, log 8). -/
def placeTableWord (s : State) (nbits w : Nat) : State :=
  { s with halted := none }.storeBytes s.pc (tableWordBytes nbits w)

end Sys2Proof.Machine
end

