-- ==== Sys2Proof/Machine/Step.lean ====
section
/-! DEFINITION. The step (spec/40_step_cycle.md R110): the only transition of the core. -/

namespace Sys2Proof.Machine

/-- `Step(s)` (R110). A halted core stays as it is and reads nothing (R119). The meanings commit `pc` themselves (R116). -/
def step (s : State) : Host.Outcome State Fault Refusal :=
  match s.halted with
  | some _ => .next s
  | none => exec (fetchInstr s) s

/-- `s` with the instruction of an opcode-table word where the next step fetches (DESIGN CHOICE, log 8). -/
def State.withFetchWord (s : State) (nbits w : Nat) : State := placeTableWord s nbits w

end Sys2Proof.Machine
end

