-- ==== Sys2Proof/Machine/Report.lean ====
section
/-! DEFINITION. The step outcome of spec/40_step_cycle.md R118, the core's output towards a host. It is not architectural
state and no instruction reads it, so it is a function of the state a step starts from (DESIGN CHOICE, log 7). -/

namespace Sys2Proof.Machine

/-- The four outcomes (R118, D24). -/
inductive Report where
  | ok
  | unimplemented (k : Kind)
  | illegalOpcode (op : Byte) (prefixed : Bool) (addr : Word)
  | halted
  deriving DecidableEq, Repr

/-- The kinds without execute semantics under this configuration (R130, R132, R134, R315): Rlc, and Add with a selector
outside `ADD_IMPL`, under `as_built` only. -/
def lacksSemantics (cfg : Config) : Kind → Bool
  | .cb (.rot .rlc) (.reg _) => cfg.profile == .asBuilt
  | .alu .add (.reg r) => !addImplemented cfg r
  | _ => false

/-- The outcome of executing an Instruction (R118). -/
def reportKind (k : Kind) (s : State) : Report :=
  match k with
  | .unknown op => .illegalOpcode op false s.pc
  | .marker op2 =>
    if s.cfg.table.assigns op2 true then
      let k2 : Kind := .cb (cbOpOf op2) (locOf (fieldZ op2))
      if lacksSemantics s.cfg k2 then .unimplemented k2 else .ok
    else .illegalOpcode op2 true s.pc
  | k => if lacksSemantics s.cfg k then .unimplemented k else .ok

/-- The outcome of the step from `s` (R118, R119). -/
def stepReport (s : State) : Report :=
  match s.halted with
  | some _ => .halted
  | none => reportKind (fetchInstr s).kind s

end Sys2Proof.Machine
end

