-- ==== Sys2Proof/Machine/Access.lean ====
section
/-! DEFINITION. The memory accesses of a step in the order of spec/20_memory.md R67: opcode bytes, operand bytes (only where
the rule reads them, R115), data reads, data writes. With plain memory no program can observe the order (D18); it stands
here as a list beside the step, not as state (DESIGN CHOICE, log 15). -/

namespace Sys2Proof.Machine

/-- One bus operation (R59). -/
inductive Access where
  | read (a : Word)
  | write (a : Word) (v : Byte)
  deriving DecidableEq, Repr

/-- The reads of the one operand byte. -/
def immReads (s : State) : List Access := [.read (s.pc + 1)]

/-- The reads of the two operand bytes, ascending. -/
def imm16Reads (s : State) : List Access := [.read (s.pc + 1), .read (s.pc + 2)]

/-- The two writes of `Push16(v)` (R184). -/
def pushWrites (v : Word) (s : State) : List Access := [.write (s.sp - 1) (hi8 v), .write (s.sp - 2) (lo8 v)]

/-- The two reads of `Pop16()` (R185). -/
def popReads (s : State) : List Access := [.read s.sp, .read (s.sp + 1)]

/-- The read of an operand `r[z]`. -/
def locReads (x : Loc8) (s : State) : List Access :=
  match x with
  | .reg _ => []
  | .memHl => [.read s.hl]

/-- The write of a result to an operand `r[z]`. -/
def locWrites (x : Loc8) (v : Byte) (s : State) : List Access :=
  match x with
  | .reg _ => []
  | .memHl => [.write s.hl v]

/-- The read of the second operand of an accumulator operation (R200). -/
def operandReads (x : Operand8) (s : State) : List Access :=
  match x with
  | .reg _ => []
  | .memHl => [.read s.hl]
  | .imm => immReads s

/-- The accesses of a prefixed operation: BIT reads only, the others read and then write (R260, R269, R270). -/
def cbAccesses (op : CbOp) (x : Loc8) (s : State) : List Access :=
  match op with
  | .rot o => locReads x s ++ locWrites x (rotByte o (s.loc8 x) s.f.c) s
  | .bit _ => locReads x s
  | .res b => locReads x s ++ locWrites x (clearBit (s.loc8 x) b) s
  | .set b => locReads x s ++ locWrites x (assertBit (s.loc8 x) b) s

/-- The operand, data-read and data-write accesses of an Instruction (R67). -/
def kindAccesses (k : Kind) (s : State) : List Access :=
  match k with
  | .nop => []
  | .ldPairImm _ => imm16Reads s
  | .inc _ => []
  | .inc8 x => locReads x s ++ locWrites x (s.loc8 x + 1) s
  | .dec8 x => locReads x s ++ locWrites x (s.loc8 x - 1) s
  | .ldRegImm _ => immReads s
  | .ldMemHlImm => immReads s ++ [.write s.hl s.imm8]
  | .rlca => []
  | .rrca => []
  | .rla => []
  | .rra => []
  | .daa => []
  | .cpl => []
  | .scf => []
  | .ccf => []
  | .ldMemNnSp => imm16Reads s ++ [.write s.imm16 (lo8 s.sp), .write (s.imm16 + 1) (hi8 s.sp)]
  | .addHl _ => []
  | .dec16 _ => []
  | .ldAMemBc => [.read (s.pair .bc)]
  | .ldAMemDe => [.read (s.pair .de)]
  | .ldMemDeA => [.write (s.pair .de) s.a]
  | .ldMemHliA => [.write s.hl s.a]
  | .ldAMemHli => [.read s.hl]
  | .ldMemHldA => [.write s.hl s.a]
  | .ldAMemHld => [.read s.hl]
  | .ldRegReg _ _ => []
  | .ldRegMemHl _ => [.read s.hl]
  | .ldMemHlReg r => [.write s.hl (s.reg r)]
  | .alu _ x => operandReads x s
  | .jp cc => if condHolds cc s.f then imm16Reads s else []
  | .jpHl => []
  | .jr cc => if condHolds cc s.f then immReads s else []
  | .call cc => if condHolds cc s.f then imm16Reads s ++ pushWrites (s.pc + 3) s else []
  | .ret cc => if condHolds cc s.f then popReads s else []
  | .rst _ => pushWrites (s.pc + 1) s
  | .push p => pushWrites (s.pair p.toReg16) s
  | .pop _ => popReads s
  | .ldhMemNA => immReads s ++ [.write (pageAddr s.imm8) s.a]
  | .ldhAMemN => immReads s ++ [.read (pageAddr s.imm8)]
  | .ldMemCA => [.write (pageAddr s.c) s.a]
  | .ldAMemC => [.read (pageAddr s.c)]
  | .ldMemNnA => imm16Reads s ++ [.write s.imm16 s.a]
  | .ldAMemNn => imm16Reads s ++ [.read s.imm16]
  | .addSpDisp => immReads s
  | .ldHlSpDisp => immReads s
  | .ldSpHl => []
  | .cb op x => cbAccesses op x s
  | .marker op2 => if s.cfg.table.assigns op2 true then cbAccesses (cbOpOf op2) (locOf (fieldZ op2)) s else []
  | .unknown _ => []

/-- The reads of fetch (R111). -/
def fetchAccesses (s : State) : List Access :=
  if (fetchOpcode s).2 then [.read s.pc, .read (s.pc + 1)] else [.read s.pc]

/-- All accesses of the step from `s` (R67); a halted step reads no memory (R119). -/
def stepAccesses (s : State) : List Access :=
  match s.halted with
  | some _ => []
  | none => fetchAccesses s ++ kindAccesses (fetchInstr s).kind s

/-- What an access does to memory (R52, R53). -/
def applyAccess (m : Memory) (x : Access) : Memory :=
  match x with
  | .read _ => m
  | .write a v => Memory.write m a v

/-- The addresses written by a list of accesses. -/
def writtenBy (l : List Access) : List Word :=
  l.filterMap fun x =>
    match x with
    | .read _ => none
    | .write a _ => some a

end Sys2Proof.Machine
end

