-- ==== Sys2Proof/Safety.lean ====
section
/-! DEFINITION. The terms claims are stated in: the invariant of the core, runs and their end (spec/70_reset_and_hazards.md
R338), and what an instruction may write (spec/10_state.md R36, R38). -/

namespace Sys2Proof.Machine

/-- The halt latch is empty, or its record is that of R302: the address is `pc` (R301), the byte was fetched there, by the
marker or without it, and it is unknown under TABLE (R96, R113). -/
def haltRecordTrue (s : State) : Prop :=
  ∀ r, s.halted = some r →
    r.addr = s.pc ∧ fetchOpcode s = (r.opcode, r.prefixed) ∧ s.cfg.table.assigns r.opcode r.prefixed = false

/-- The invariant of the core: memory in canonical form, and a truthful halt record. -/
def Inv (s : State) : Prop := Memory.wf s.mem ∧ haltRecordTrue s

/-- The core still executes (R32). -/
def running (s : State) : Prop := s.halted = none

/-- One step leads from `s` to `t`. -/
def Steps (s t : State) : Prop := step s = .next t

/-- A run (R338): `t` is reached from `s` by `n` steps. -/
inductive RunsTo : Nat → State → State → Prop where
  | zero (s : State) : RunsTo 0 s s
  | succ {n : Nat} {s t u : State} (h : Steps s t) (r : RunsTo n t u) : RunsTo (n + 1) s u

/-- The run has ended at `addr` (R122, R338). -/
def endedAt (s : State) (addr : Word) : Prop := ∃ r, s.halted = some r ∧ r.addr = addr

/-! ## What an instruction may write -/

/-- The registers of a pair that is a general pair or AF's A. -/
def pairRegs : Reg16 → List Reg8
  | .bc => [.b, .c]
  | .de => [.d, .e]
  | .hl => [.h, .l]
  | .sp => []
  | .af => [.a]

/-- The register an operand `r[z]` is. -/
def locRegs : Loc8 → List Reg8
  | .reg r => [r]
  | .memHl => []

/-- The registers a prefixed operation may write: BIT writes none (R260, R269). -/
def cbRegs : CbOp → Loc8 → List Reg8
  | .bit _, _ => []
  | .rot _, x => locRegs x
  | .res _, x => locRegs x
  | .set _, x => locRegs x

/-- The general registers an Instruction's rule lets it write (R38). -/
def writableRegs : Kind → List Reg8
  | .nop => []
  | .ldPairImm p => pairRegs p.toReg16
  | .inc p => pairRegs p.toReg16
  | .inc8 x => locRegs x
  | .dec8 x => locRegs x
  | .ldRegImm r => [r]
  | .ldMemHlImm => []
  | .rlca => [.a]
  | .rrca => [.a]
  | .rla => [.a]
  | .rra => [.a]
  | .daa => [.a]
  | .cpl => [.a]
  | .scf => []
  | .ccf => []
  | .ldMemNnSp => []
  | .addHl _ => [.h, .l]
  | .dec16 p => pairRegs p.toReg16
  | .ldAMemBc => [.a]
  | .ldAMemDe => [.a]
  | .ldMemDeA => []
  | .ldMemHliA => [.h, .l]
  | .ldAMemHli => [.a, .h, .l]
  | .ldMemHldA => [.h, .l]
  | .ldAMemHld => [.a, .h, .l]
  | .ldRegReg rd _ => [rd]
  | .ldRegMemHl r => [r]
  | .ldMemHlReg _ => []
  | .alu .cp _ => []
  | .alu _ _ => [.a]
  | .jp _ => []
  | .jpHl => []
  | .jr _ => []
  | .call _ => []
  | .ret _ => []
  | .rst _ => []
  | .push _ => []
  | .pop p => pairRegs p.toReg16
  | .ldhMemNA => []
  | .ldhAMemN => [.a]
  | .ldMemCA => []
  | .ldAMemC => [.a]
  | .ldMemNnA => []
  | .ldAMemNn => [.a]
  | .addSpDisp => []
  | .ldHlSpDisp => [.h, .l]
  | .ldSpHl => []
  | .cb op x => cbRegs op x
  | .marker op2 => cbRegs (cbOpOf op2) (locOf (fieldZ op2))
  | .unknown _ => []

/-- Whether an Instruction's rule lets it write `sp` (R29, R38). -/
def maySetSp : Kind → Bool
  | .ldPairImm p => p == .sp
  | .inc p => p == .sp
  | .dec16 p => p == .sp
  | .call _ => true
  | .ret _ => true
  | .rst _ => true
  | .push _ => true
  | .pop _ => true
  | .addSpDisp => true
  | .ldSpHl => true
  | _ => false

/-- Which flags a prefixed operation writes (R261 to R271): RES and SET none, BIT all but C. -/
def cbWritableFlags : CbOp → Flags
  | .rot _ => ⟨true, true, true, true⟩
  | .bit _ => ⟨true, true, true, false⟩
  | .res _ => ⟨false, false, false, false⟩
  | .set _ => ⟨false, false, false, false⟩

/-- Which flags an Instruction writes (the table of R36, and for DAA R245, which keeps N; DEDUCED, log 13): a field is true where
the flag may be written. -/
def writableFlags : Kind → Flags
  | .alu _ _ => ⟨true, true, true, true⟩
  | .inc8 _ => ⟨true, true, true, false⟩
  | .dec8 _ => ⟨true, true, true, false⟩
  | .rlca => ⟨true, true, true, true⟩
  | .rrca => ⟨true, true, true, true⟩
  | .rla => ⟨true, true, true, true⟩
  | .rra => ⟨true, true, true, true⟩
  | .daa => ⟨true, false, true, true⟩
  | .cpl => ⟨false, true, true, false⟩
  | .scf => ⟨false, true, true, true⟩
  | .ccf => ⟨false, true, true, true⟩
  | .addHl _ => ⟨false, true, true, true⟩
  | .addSpDisp => ⟨true, true, true, true⟩
  | .ldHlSpDisp => ⟨true, true, true, true⟩
  | .pop p => if p = .af then ⟨true, true, true, true⟩ else ⟨false, false, false, false⟩
  | .cb op _ => cbWritableFlags op
  | .marker op2 => cbWritableFlags (cbOpOf op2)
  | _ => ⟨false, false, false, false⟩

end Sys2Proof.Machine
end

