-- ==== Sys2Proof/Certificates/Slice0/Obligations.lean ====
section
/-! DEFINITION. The statements for the provers. Results are written with the arithmetic of the spec's own pseudocode on
numbers, not with the model's flag functions; a result statement gives the whole next state, so its frame is in it. -/

open Sys2Proof Sys2Proof.Machine

namespace Sys2Proof.Claims

/-- The unprefixed cell of a byte under the default `T_full` (R8, R93). -/
def cell (op : Byte) : Instr := decodeCell .tFull op false

/-- The prefixed cell of a byte under `T_full` (R94). -/
def cbCell (op2 : Byte) : Instr := decodeCell .tFull op2 true

/-- The byte `base + offset`. -/
def at8 (base offset : Nat) : Byte := BitVec.ofNat 8 (base + offset)

/-- `h ++ l = h * 256 + l` (R9). -/
def word (h l : Byte) : Word := BitVec.ofNat 16 (h.toNat * 256 + l.toNat)

/-- `imm16`: low byte at `pc +16 1`, high byte at `pc +16 2` (R86). -/
def nn (s : State) : Word := word (s.load8 (s.pc + 2)) (s.load8 (s.pc + 1))

/-- `imm8` (R85). -/
def n8 (s : State) : Byte := s.load8 (s.pc + 1)

/-- `sext_16(d)` as R10 writes it. -/
def disp (d : Byte) : Word := BitVec.ofNat 16 (if d.toNat < 0x80 then d.toNat else d.toNat + 0xFF00)

/-- The conditions of R133. -/
def taken (cc : Cond) (s : State) : Prop :=
  match cc with
  | .notZero => s.f.z = false
  | .zero => s.f.z = true
  | .notCarry => s.f.c = false
  | .carry => s.f.c = true
  | .always => True

/-- The second operand of an accumulator operation (the table of R200). -/
def operand (x : Operand8) (s : State) : Byte :=
  match x with
  | .reg r => s.reg r
  | .memHl => s.load8 (word s.h s.l)
  | .imm => n8 s

/-- The length of an accumulator operation (the table of R200). -/
def operandLength : Operand8 → Word
  | .reg _ => 1
  | .memHl => 1
  | .imm => 2

/-- The first byte of an accumulator operation (the table of R200). -/
def operandByte (op : Nat) : Operand8 → Byte
  | .reg r => at8 (0x80 + 8 * op) r.index
  | .memHl => at8 0x86 (8 * op)
  | .imm => at8 0xC6 (8 * op)

/-- The value of the operand `r[z]` (R260). -/
def value (x : Loc8) (s : State) : Byte :=
  match x with
  | .reg r => s.reg r
  | .memHl => s.load8 (word s.h s.l)

/-- `s` with the operand `r[z]` written (R260): a register, or the byte of memory at HL. -/
def written (x : Loc8) (v : Nat) (s : State) : State :=
  match x with
  | .reg r => s.setReg r (BitVec.ofNat 8 v)
  | .memHl => s.store8 (word s.h s.l) (BitVec.ofNat 8 v)

/-- The results of the rotates and shifts on numbers (R132, R241 to R244, R262 to R268). -/
def rotated (op : RotOp) (v c : Nat) : Nat :=
  match op with
  | .rlc => v * 2 % 256 + v / 128
  | .rrc => v / 2 + v % 2 * 128
  | .rl => v * 2 % 256 + c
  | .rr => v / 2 + c * 128
  | .sla => v * 2 % 256
  | .sra => v / 2 + v / 128 * 128
  | .swap => v * 16 % 256 + v / 16
  | .srl => v / 2

/-- The bit a rotate or shift moves out: bit 7 to the left, bit 0 to the right, none for SWAP. -/
def movedOut (op : RotOp) (v : Nat) : Bool :=
  match op with
  | .rlc => decide (v ≥ 128)
  | .rrc => decide (v % 2 = 1)
  | .rl => decide (v ≥ 128)
  | .rr => decide (v % 2 = 1)
  | .sla => decide (v ≥ 128)
  | .sra => decide (v % 2 = 1)
  | .swap => false
  | .srl => decide (v % 2 = 1)

/-- The flags of the unsigned addition of the low byte of `sp` and `d` (R183, R232). -/
def lowByteFlags (sp : Word) (d : Byte) : Flags :=
  { z := false
    n := false
    h := decide (sp.toNat % 16 + d.toNat % 16 > 0xF)
    c := decide (sp.toNat % 256 + d.toNat > 0xFF) }

/-- The DAA algorithm of R245 on numbers: the value of `a` after both adjustments. -/
def daaValue (a : Nat) (f : Flags) : Nat :=
  if f.n = false then
    let a1 := if f.c = true ∨ a > 0x99 then (a + 0x60) % 256 else a
    if f.h = true ∨ a1 % 16 > 0x9 then (a1 + 0x06) % 256 else a1
  else
    let a1 := if f.c = true then (a + 256 - 0x60) % 256 else a
    if f.h = true then (a1 + 256 - 0x06) % 256 else a1

/-- The packed decimal byte of a number below 100. -/
def bcd (x : Nat) : Byte := BitVec.ofNat 8 (x / 10 * 16 + x % 10)

/-- The decoder's answer "unknown" for a cell. -/
def unknownCell (t : Table) (op : Byte) (prefixed : Bool) : Prop :=
  decodeCell t op prefixed = if prefixed then .prefixCB op else .unknown op

/-- The instructions without execute semantics under `as_built` (R118, R130, R132, R134); Rlc of every register (DEDUCED,
log 4). -/
def withoutSemantics (s : State) (k : Kind) : Prop :=
  s.cfg.profile = .asBuilt ∧
    ((∃ r, k = .cb (.rot .rlc) (.reg r)) ∨ ∃ r, r ∉ s.cfg.addImpl ∧ k = .alu .add (.reg r))

/-- What fetch reads (R111) at an address of a memory: the byte there, or after the marker the byte that follows. -/
def fetchFrom (m : Memory) (pc : Word) : Byte × Bool :=
  if Memory.read m pc = 0xCB then (Memory.read m (pc + 1), true) else (Memory.read m pc, false)

/-- All 256 bytes. -/
def bytes : List Byte := (List.range 256).map (BitVec.ofNat 8)

/-- How many cells of one space decode to an Instruction under a TABLE. -/
def assignedCount (t : Table) (prefixed : Bool) : Nat :=
  (bytes.filter fun op => decodeCell t op prefixed != if prefixed then .prefixCB op else .unknown op).length

end Sys2Proof.Claims

open Sys2Proof.Claims

/-! ## Encoding -/

/-- Decode and encode agree (R80, R87, R89, R91 to R94): for every TABLE, every well-formed instruction and every bytes
after it. The instruction carries no operand bytes (R86); they are the first of `rest`. -/
def Obligations.DecodeOfEncodeIsIdentity : Prop :=
  ∀ (t : Table) (i : Instr) (rest : List Byte), WellFormed t i → decode t (encode i ++ rest) = .ok (i, rest)

/-- The other direction (R89, R101): what the decoder answers is well formed and encodes back to the bytes read, but for
the second byte of Inc(BC), 0x03, whose encoding is the source's 0x02 (log 9). -/
def Obligations.EncodeOfDecodeIsTheWordRead : Prop :=
  ∀ (t : Table) (bs rest : List Byte) (i : Instr), decode t bs = .ok (i, rest) →
    WellFormed t i ∧ (encode i ++ rest = bs ∨ (t = .tFull ∧ i = .incBc ∧ bs = 0x03 :: rest))

/-- Words written out from the spec's encodings decode to the instructions they stand for, one or more of every family. -/
def Obligations.SampleWordsDecodeRight : Prop :=
  decode .tFull [0b10000001] = .ok (.addAC, []) ∧
  decode .tFull [0b00010011] = .ok (.incDe, []) ∧
  decode .tFull [0b11001011, 0b00000000] = .ok (.rlcB, []) ∧
  decode .tFull [0b11000010, 0x34, 0x12] = .ok (.jpNzNn, [0x34, 0x12]) ∧
  decode .tFull [0b01000001] = .ok (.ldBC, []) ∧
  decode .tFull [0b01110101] = .ok (.ldMemHlL, []) ∧
  decode .tFull [0b00111110, 0x2A] = .ok (.ldAN, [0x2A]) ∧
  decode .tFull [0b11111000, 0x08] = .ok (.ldHlSpDisp, [0x08]) ∧
  decode .tFull [0b11110101] = .ok (.pushAf, []) ∧
  decode .tFull [0b10011100] = .ok (.sbcAH, []) ∧
  decode .tFull [0b00110100] = .ok (.incMemHl, []) ∧
  decode .tFull [0b00111001] = .ok (.addHlSp, []) ∧
  decode .tFull [0b00100111] = .ok (.daa, []) ∧
  decode .tFull [0b11001011, 0b11001011] = .ok (.set1E, []) ∧
  decode .tFull [0b11001011, 0b01100101] = .ok (.bit4L, []) ∧
  decode .tFull [0b11011100, 0x00, 0x02] = .ok (.callCNn, [0x00, 0x02]) ∧
  decode .tFull [0b11101111] = .ok (.rst28H, []) ∧
  decode .tFull [0b11111111] = .ok (.unknown 0xFF, []) ∧
  decode .tMin [0b11001011, 0b00000001] = .ok (.prefixCB 0x01, [])

/-- R91: the source's cells hold under every TABLE, and under `T_src` every other cell of both spaces is unknown. -/
def Obligations.SourceCellsHoldUnderEveryTable : Prop :=
  (∀ t : Table, decodeCell t 0x02 false = .incBc ∧ decodeCell t 0x13 false = .incDe ∧ unknownCell t 0xFF false ∧
    (∀ (op : Byte) (rest : List Byte), decode t (0xCB :: op :: rest) = .ok (decodeCell t op true, rest)) ∧
    decodeCell t 0x00 true = .rlcB) ∧
  ∀ (op : Byte) (p : Bool), ¬(p = false ∧ (op = 0x02 ∨ op = 0x13)) → ¬(p = true ∧ op = 0x00) → unknownCell .tSrc op p

/-- R92: the decided bytes of Add and Jp hold under `T_min` and `T_full`; 0x86 is no cell of `T_min`. -/
def Obligations.DecidedCellsOfAddAndJp : Prop :=
  (∀ t : Table, t ≠ .tSrc →
    decodeCell t 0x80 false = .addAB ∧ decodeCell t 0x81 false = .addAC ∧ decodeCell t 0x82 false = .addAD ∧
    decodeCell t 0x83 false = .addAE ∧ decodeCell t 0x84 false = .addAH ∧ decodeCell t 0x85 false = .addAL ∧
    decodeCell t 0x87 false = .addAA ∧ decodeCell t 0xC2 false = .jpNzNn ∧ decodeCell t 0xC3 false = .jpNn ∧
    decodeCell t 0xCA false = .jpZNn ∧ decodeCell t 0xD2 false = .jpNcNn ∧ decodeCell t 0xDA false = .jpCNn) ∧
  unknownCell .tMin 0x86 false ∧ decodeCell .tFull 0x86 false = .addAMemHl

/-- R95: how many cells decode to an Instruction under each TABLE, and the direct call on 0xCB is unknown. -/
def Obligations.TableCountsOfDecodedCells : Prop :=
  assignedCount .tSrc false = 2 ∧ assignedCount .tSrc true = 1 ∧
  assignedCount .tMin false = 14 ∧ assignedCount .tMin true = 1 ∧
  assignedCount .tFull false = 238 ∧ assignedCount .tFull true = 256 ∧
  ∀ t : Table, unknownCell t 0xCB false

/-- R96: under `T_full` the unknown unprefixed bytes (0xCB, which is never looked up, apart) are exactly the seventeen,
and no prefixed cell is unknown; under `T_min` and `T_src` every cell outside R91 and R92 is unknown; executing one
raises IllegalOpcode, in either table. -/
def Obligations.UnknownCellsAreTheListedOnes : Prop :=
  (∀ op : Byte, op ≠ 0xCB →
    (unknownCell .tFull op false ↔
      op ∈ ([0xFF, 0x10, 0x76, 0xD9, 0xF3, 0xFB, 0xD3, 0xDB, 0xDD, 0xE3, 0xE4, 0xEB, 0xEC, 0xED, 0xF4, 0xFC, 0xFD] :
        List Byte))) ∧
  (∀ op : Byte, ¬unknownCell .tFull op true) ∧
  (∀ (t : Table) (op : Byte) (p : Bool), t ≠ .tFull → (op, p) ∉ sourceCells → ¬(p = false ∧ op ∈ decidedBytes) →
    unknownCell t op p) ∧
  (∀ (op : Byte) (s : State), exec (.unknown op) s = .next { s with halted := some ⟨op, false, s.pc⟩ }) ∧
  ∀ (op : Byte) (s : State), unknownCell s.cfg.table op true →
    exec (.prefixCB op) s = .next { s with halted := some ⟨op, true, s.pc⟩ }

/-! ## The step -/

/-- A step runs the decoded instruction (R111, R112): when the bytes at `pc` decode to `i`, the step is `exec i`. Nothing
stands around it: the meaning commits `pc` itself (R116). -/
def Obligations.StepRunsTheDecodedInstruction : Prop :=
  ∀ (s : State) (i : Instr) (more rest : List Byte), s.halted = none →
    decode s.cfg.table (s.load8 s.pc :: s.load8 (s.pc + 1) :: more) = .ok (i, rest) → step s = exec i s

/-- Every step and every execution answers a next state (R110, R316, R317): no fault and no refusal can occur. -/
def Obligations.EveryStepAnswersANextState : Prop :=
  (∀ s : State, ∃ t, step s = .next t) ∧ ∀ (i : Instr) (s : State), ∃ t, exec i s = .next t

/-- R119: a step of a halted core changes nothing, reads no memory and yields `Halted`. -/
def Obligations.HaltedStepIsTheIdentity : Prop :=
  ∀ (s : State) (r : HaltRecord), s.halted = some r →
    step s = .next s ∧ stepAccesses s = [] ∧ stepReport s = .halted

/-- R113: an unknown opcode, in either table, latches its byte, its prefixed flag and `pc`, and changes nothing else. -/
def Obligations.UnknownOpcodeLatchesTheHaltRecord : Prop :=
  ∀ (s : State) (op : Byte) (p : Bool), s.halted = none → fetchOpcode s = (op, p) → unknownCell s.cfg.table op p →
    step s = .next { s with halted := some ⟨op, p, s.pc⟩ } ∧ stepReport s = .illegalOpcode op p s.pc

/-- R300: the exception is taken when, and only when, the decoder answers unknown for the fetched byte, and it records
that byte, the prefixed flag and the address. -/
def Obligations.HaltsExactlyOnUnknownOpcodes : Prop :=
  ∀ s t : State, s.halted = none → step s = .next t →
    (t.halted ≠ none ↔ unknownCell s.cfg.table (fetchOpcode s).1 (fetchOpcode s).2) ∧
    (∀ r, t.halted = some r → r = ⟨(fetchOpcode s).1, (fetchOpcode s).2, s.pc⟩) ∧
    (t.halted ≠ none ↔ stepReport s = .illegalOpcode (fetchOpcode s).1 (fetchOpcode s).2 s.pc)

/-- The invariant of the core is kept by every step: canonical memory, and a halt record that tells the truth (R302). -/
def Obligations.EveryStepKeepsTheInvariant : Prop :=
  ∀ s t : State, Inv s → step s = .next t → Inv t

/-- The state after reset meets the invariant, and holds no halt record. -/
def Obligations.ResetMeetsTheInvariant : Prop := Inv State.reset ∧ State.reset.halted = none

/-- The configuration is fixed for a machine (R7): no instruction, no step and no reset changes it. -/
def Obligations.ConfigurationNeverChanges : Prop :=
  (∀ (i : Instr) (s t : State), exec i s = .next t → t.cfg = s.cfg) ∧
  (∀ s t : State, step s = .next t → t.cfg = s.cfg) ∧
  ∀ init s : State, (resetTo init s).cfg = s.cfg

/-- R338, R122: a run ends exactly at an illegal opcode. Once a run has reached a halted state it stays there, and a run
that started running entered that state by a step that fetched an unknown opcode. -/
def Obligations.HaltedStatesAbsorbEveryRun : Prop :=
  ∀ (n m : Nat) (s t u : State), RunsTo n s t → t.halted ≠ none → RunsTo m t u →
    u = t ∧ (s.halted = none → ∃ k v, RunsTo k s v ∧ v.halted = none ∧ Steps v t ∧
      unknownCell v.cfg.table (fetchOpcode v).1 (fetchOpcode v).2)

/-- R337: under `as_built` an Inc counts for ever at one `pc`, and an instruction without semantics changes nothing for
ever. -/
def Obligations.AsBuiltLivelock : Prop :=
  (∀ (n : Nat) (s : State) (p : Rp), s.cfg.profile = .asBuilt → s.halted = none → (fetchInstr s).kind = .inc p →
    RunsTo n s (s.setPair p.toReg16 (s.pair p.toReg16 + BitVec.ofNat 16 n))) ∧
  ∀ (n : Nat) (s : State), s.cfg.profile = .asBuilt → s.halted = none →
    ((∃ r, (fetchInstr s).kind = .cb (.rot .rlc) (.reg r)) ∨
      ∃ r, (fetchInstr s).kind = .alu .add (.reg r) ∧ r ∉ s.cfg.addImpl) →
    RunsTo n s s

/-- What each of the four outcomes of R118 means, and that the four are all there is. That under `as_built` the Rlc of every
register is without semantics, as `withoutSemantics` has it, is the model's reading of R132 against the last sentence of
R134 (DEDUCED, log 4). -/
def Obligations.StepOutcomesMeanWhatTheySay : Prop :=
  ∀ s : State,
    (stepReport s = .halted ↔ s.halted ≠ none) ∧
    (∀ (op : Byte) (p : Bool) (a : Word), stepReport s = .illegalOpcode op p a ↔
      s.halted = none ∧ fetchOpcode s = (op, p) ∧ a = s.pc ∧ unknownCell s.cfg.table op p) ∧
    (∀ k : Kind, stepReport s = .unimplemented k ↔ s.halted = none ∧ k = (fetchInstr s).kind ∧ withoutSemantics s k) ∧
    (stepReport s = .ok ↔
      s.halted = none ∧ ¬unknownCell s.cfg.table (fetchOpcode s).1 (fetchOpcode s).2 ∧
        ¬withoutSemantics s (fetchInstr s).kind) ∧
    (∀ (op : Byte) (p : Bool) (a : Word), stepReport s = .illegalOpcode op p a →
      step s = .next { s with halted := some ⟨op, p, a⟩ }) ∧
    (∀ k : Kind, stepReport s = .unimplemented k → step s = .next s) ∧
    (stepReport s = .halted → step s = .next s) ∧
    (stepReport s = .ok → step s = exec (fetchInstr s) s)

/-! ## What a step may write -/

/-- Memory after a step is memory before it with the writes of the step's access list applied in order (R67): the list
computes every stored address and byte. That the order stands in a list beside the step is the model's (DESIGN CHOICE,
log 15). -/
def Obligations.MemoryAfterAStepIsItsWrites : Prop :=
  ∀ s t : State, step s = .next t → t.mem = (stepAccesses s).foldl applyAccess s.mem

/-- The memory frame of every instruction: a byte outside the addresses its accesses write reads as before; a form that
stores nothing has no such address. -/
def Obligations.MemoryFrameOfEveryInstruction : Prop :=
  ∀ (i : Instr) (s t : State) (a : Word), exec i s = .next t → a ∉ writtenBy (kindAccesses i.kind s) →
    t.load8 a = s.load8 a

/-- The register frame of every instruction (R38): a general register its rule does not write, `sp` where its rule does
not write it, and the halt latch but for an unknown opcode, keep their values. -/
def Obligations.RegisterFrameOfEveryInstruction : Prop :=
  ∀ (i : Instr) (s t : State), exec i s = .next t →
    (∀ r, r ∉ writableRegs i.kind → t.reg r = s.reg r) ∧
    (maySetSp i.kind = false → t.sp = s.sp) ∧
    ((∀ op, i ≠ .unknown op ∧ i ≠ .prefixCB op) → t.halted = s.halted)

/-- The flag frame of every instruction (the table of R36): a flag its rule does not write keeps its value. -/
def Obligations.FlagFrameOfEveryInstruction : Prop :=
  ∀ (i : Instr) (s t : State), exec i s = .next t →
    ((writableFlags i.kind).z = false → t.f.z = s.f.z) ∧
    ((writableFlags i.kind).n = false → t.f.n = s.f.n) ∧
    ((writableFlags i.kind).h = false → t.f.h = s.f.h) ∧
    ((writableFlags i.kind).c = false → t.f.c = s.f.c)

/-! ## State and memory -/

/-- R52 to R55 with the wrap of R56: byte and word accesses, each against every byte of memory. -/
def Obligations.MemoryAccessesReadWhatWasWritten : Prop :=
  ∀ (s : State) (a b v : Word) (x : Byte),
    (s.store8 a x).load8 b = (if b = a then x else s.load8 b) ∧
    s.load16 a = word (s.load8 (a + 1)) (s.load8 a) ∧
    s.store16 a v = (s.store8 a (BitVec.ofNat 8 (v.toNat % 256))).store8 (a + 1) (BitVec.ofNat 8 (v.toNat / 256)) ∧
    (s.store16 a v).load8 b =
      (if b = a then BitVec.ofNat 8 (v.toNat % 256) else if b = a + 1 then BitVec.ofNat 8 (v.toNat / 256) else s.load8 b) ∧
    s.load16 0xFFFF = word (s.load8 0x0000) (s.load8 0xFFFF)

/-- R65: a store is seen by the fetch of the very next step, whichever instruction stored. The next fetch reads the memory
the step's writes leave; the last byte the step wrote to an address is the opcode that fetch takes there, unprefixed or,
where it is the marker, followed by the byte after it; or the prefixed opcode behind a marker at `pc`. The writes
are those of the access list, which is the model's (DESIGN CHOICE, log 15). The last clause is such a step: a `LD (HL),A`
that stores at the address after itself. -/
def Obligations.StoreIsSeenByTheNextFetch : Prop :=
  ∀ s t : State, s.halted = none → step s = .next t →
    fetchOpcode t = fetchFrom ((stepAccesses s).foldl applyAccess s.mem) t.pc ∧
    (∀ (before after : List Access) (a : Word) (v : Byte),
      stepAccesses s = before ++ .write a v :: after → a ∉ writtenBy after →
        (t.pc = a → v ≠ 0xCB → fetchOpcode t = (v, false)) ∧
        (t.pc = a → v = 0xCB → fetchOpcode t = (t.load8 (a + 1), true)) ∧
        (t.pc + 1 = a → t.load8 t.pc = 0xCB → fetchOpcode t = (v, true))) ∧
    (fetchInstr s = .ldMemHlA → word s.h s.l = s.pc + 1 →
      t.pc = s.pc + 1 ∧ t.load8 t.pc = s.a ∧ (s.a ≠ 0xCB → fetchOpcode t = (s.a, false)))

/-- R23, R24, R25: the flags byte. -/
def Obligations.FlagsByteRoundTrip : Prop :=
  (∀ f : Flags, (encodeFlags f).toNat = f.z.toNat * 0x80 + f.n.toNat * 0x40 + f.h.toNat * 0x20 + f.c.toNat * 0x10) ∧
  (∀ b : Byte, decodeFlags b = ⟨decide (b.toNat / 128 % 2 = 1), decide (b.toNat / 64 % 2 = 1),
    decide (b.toNat / 32 % 2 = 1), decide (b.toNat / 16 % 2 = 1)⟩) ∧
  (∀ b : Byte, encodeFlags (decodeFlags b) = b &&& 0xF0) ∧
  (∀ f : Flags, decodeFlags (encodeFlags f) = f) ∧
  ∀ (s : State) (b : Byte) (v : Word),
    s.readF = encodeFlags s.f ∧ (s.pair .af).toNat % 256 = (encodeFlags s.f).toNat ∧
    s.writeF b = { s with f := decodeFlags b } ∧ (s.setPair .af v).f = decodeFlags (BitVec.ofNat 8 v.toNat)

/-- R26, R27, R28: the pairs are views of their registers, and what is written is read back. -/
def Obligations.PairsAreViewsOfTheirRegisters : Prop :=
  ∀ (s : State) (v : Word),
    (s.pair .bc = word s.b s.c ∧ s.pair .de = word s.d s.e ∧ s.pair .hl = word s.h s.l ∧
      s.pair .af = word s.a (encodeFlags s.f)) ∧
    (s.setPair .bc v = { s with b := BitVec.ofNat 8 (v.toNat / 256), c := BitVec.ofNat 8 v.toNat } ∧
      s.setPair .de v = { s with d := BitVec.ofNat 8 (v.toNat / 256), e := BitVec.ofNat 8 v.toNat } ∧
      s.setPair .hl v = { s with h := BitVec.ofNat 8 (v.toNat / 256), l := BitVec.ofNat 8 v.toNat } ∧
      s.setPair .af v = { s with a := BitVec.ofNat 8 (v.toNat / 256), f := decodeFlags (BitVec.ofNat 8 v.toNat) }) ∧
    ((s.setPair .bc v).pair .bc = v ∧ (s.setPair .de v).pair .de = v ∧ (s.setPair .hl v).pair .hl = v ∧
      (s.setPair .af v).pair .af = v &&& 0xFFF0) ∧
    ∀ rr : Reg16, s.setPair rr (s.pair rr) = s

/-- R330: reset replaces the whole state by INIT, every byte of memory too, and empties the halt latch. -/
def Obligations.ResetReplacesTheWholeState : Prop :=
  ∀ init s : State,
    (∀ r, (resetTo init s).reg r = init.reg r) ∧ (resetTo init s).f = init.f ∧ (resetTo init s).pc = init.pc ∧
    (resetTo init s).sp = init.sp ∧ (∀ a, (resetTo init s).load8 a = init.load8 a) ∧ (resetTo init s).halted = none

/-- R37: the default INIT, with no byte loaded. The source leaves these values open; the spec's default is not a property
of the hardware (log 1, log 2). -/
def Obligations.ResetStateIsTheDefaultInit : Prop :=
  (∀ r, State.reset.reg r = 0x00) ∧ State.reset.f = ⟨false, false, false, false⟩ ∧ State.reset.pc = 0x0000 ∧
  State.reset.sp = 0x0000 ∧ State.reset.halted = none ∧ ∀ a, State.reset.load8 a = 0x00

/-! ## The instructions the source documents -/

/-- R130: `ADD A,r`, for every selector, in both profiles. -/
def Obligations.AddRegisterToAccumulator : Prop :=
  ∀ (t : Table) (r : Reg8) (s : State), t ≠ .tSrc →
    (s.cfg.profile = .completed ∨ r ∈ s.cfg.addImpl →
      exec (decodeCell t (at8 0x80 r.index) false) s = .next
        { s with
          a := BitVec.ofNat 8 (s.a.toNat + (s.reg r).toNat)
          f := { z := decide ((s.a.toNat + (s.reg r).toNat) % 256 = 0)
                 n := false
                 h := decide (s.a.toNat % 16 + (s.reg r).toNat % 16 > 0xF)
                 c := decide (s.a.toNat + (s.reg r).toNat > 255) }
          pc := s.pc + 1 }) ∧
    (s.cfg.profile = .asBuilt → r ∉ s.cfg.addImpl →
      exec (decodeCell t (at8 0x80 r.index) false) s = .next s ∧
      reportKind (decodeCell t (at8 0x80 r.index) false).kind s = .unimplemented (.alu .add (.reg r)))

/-- R131: `INC rr` at each of its bytes, in both profiles; the `as_built` clause for every selector is log 4. -/
def Obligations.IncrementPair : Prop :=
  ∀ (t : Table) (p : Rp) (s : State),
    (exec (decodeCell t 0x02 false) s = .next
      { s.setPair .bc (BitVec.ofNat 16 ((s.pair .bc).toNat + 1)) with
        pc := if s.cfg.profile = .completed then s.pc + 1 else s.pc }) ∧
    (exec (decodeCell t 0x13 false) s = .next
      { s.setPair .de (BitVec.ofNat 16 ((s.pair .de).toNat + 1)) with
        pc := if s.cfg.profile = .completed then s.pc + 1 else s.pc }) ∧
    exec (cell (at8 0x03 (16 * p.index))) s = .next
      { s.setPair p.toReg16 (BitVec.ofNat 16 ((s.pair p.toReg16).toNat + 1)) with
        pc := if s.cfg.profile = .completed then s.pc + 1 else s.pc }

/-- R132: `RLC r`, in both profiles; the `as_built` clause for every selector is log 4. -/
def Obligations.RotateRegisterLeftCircular : Prop :=
  (∀ t : Table, decodeCell t 0x00 true = .rlcB) ∧
  ∀ (r : Reg8) (s : State),
    (s.cfg.profile = .completed →
      exec (cbCell (at8 0 r.index)) s = .next
        { s.setReg r (BitVec.ofNat 8 (rotated .rlc (s.reg r).toNat 0)) with
          f := { z := decide (rotated .rlc (s.reg r).toNat 0 = 0), n := false, h := false
                 c := decide ((s.reg r).toNat ≥ 128) }
          pc := s.pc + 2 }) ∧
    (s.cfg.profile = .asBuilt →
      exec (cbCell (at8 0 r.index)) s = .next s ∧
      reportKind (cbCell (at8 0 r.index)).kind s = .unimplemented (.cb (.rot .rlc) (.reg r)))

/-- R133: `JP cc,nn` and `JP nn`: taken, to the operand; not taken, past three bytes. -/
def Obligations.JumpToAbsoluteAddress : Prop :=
  ∀ (t : Table) (cc : Cond) (s : State), t ≠ .tSrc →
    (taken cc s → exec (decodeCell t (cc.byte 0xC2 0xC3) false) s = .next { s with pc := nn s }) ∧
    (¬taken cc s → exec (decodeCell t (cc.byte 0xC2 0xC3) false) s = .next { s with pc := s.pc + 3 }) ∧
    (¬taken cc s → kindAccesses (decodeCell t (cc.byte 0xC2 0xC3) false).kind s = [])

/-! ## 8-bit loads and stores -/

/-- R150, R151, R153: the loads of a register from a register, from memory at HL, from an immediate. -/
def Obligations.LoadsOfARegister : Prop :=
  ∀ (rd rs : Reg8) (s : State),
    exec (cell (at8 0x40 (8 * rd.index + rs.index))) s = .next { s.setReg rd (s.reg rs) with pc := s.pc + 1 } ∧
    exec (cell (at8 0x46 (8 * rd.index))) s = .next
      { s.setReg rd (s.load8 (word s.h s.l)) with pc := s.pc + 1 } ∧
    exec (cell (at8 0x06 (8 * rd.index))) s = .next { s.setReg rd (n8 s) with pc := s.pc + 2 }

/-- R152, R154: the stores to memory at HL. -/
def Obligations.StoresAtHl : Prop :=
  ∀ (r : Reg8) (s : State),
    exec (cell (at8 0x70 r.index)) s = .next { s.store8 (word s.h s.l) (s.reg r) with pc := s.pc + 1 } ∧
    exec (cell 0x36) s = .next { s.store8 (word s.h s.l) (n8 s) with pc := s.pc + 2 }

/-- R155, R156, R158, R160, R162: the loads of A from memory. -/
def Obligations.LoadsOfTheAccumulator : Prop :=
  ∀ s : State,
    exec (cell 0x0A) s = .next { s with a := s.load8 (word s.b s.c), pc := s.pc + 1 } ∧
    exec (cell 0x1A) s = .next { s with a := s.load8 (word s.d s.e), pc := s.pc + 1 } ∧
    exec (cell 0xFA) s = .next { s with a := s.load8 (nn s), pc := s.pc + 3 } ∧
    exec (cell 0xF0) s = .next { s with a := s.load8 (BitVec.ofNat 16 (0xFF00 + (n8 s).toNat)), pc := s.pc + 2 } ∧
    exec (cell 0xF2) s = .next { s with a := s.load8 (BitVec.ofNat 16 (0xFF00 + s.c.toNat)), pc := s.pc + 1 }

/-- R157, R159, R161, R163: the stores of A to memory. -/
def Obligations.StoresOfTheAccumulator : Prop :=
  ∀ s : State,
    exec (cell 0x12) s = .next { s.store8 (word s.d s.e) s.a with pc := s.pc + 1 } ∧
    exec (cell 0xEA) s = .next { s.store8 (nn s) s.a with pc := s.pc + 3 } ∧
    exec (cell 0xE0) s = .next { s.store8 (BitVec.ofNat 16 (0xFF00 + (n8 s).toNat)) s.a with pc := s.pc + 2 } ∧
    exec (cell 0xE2) s = .next { s.store8 (BitVec.ofNat 16 (0xFF00 + s.c.toNat)) s.a with pc := s.pc + 1 }

/-- R164 to R167: the accesses at HL that then increment or decrement HL. -/
def Obligations.AccessesAtHlThatMoveHl : Prop :=
  ∀ s : State,
    exec (cell 0x22) s = .next
      { (s.store8 (word s.h s.l) s.a).setPair .hl (word s.h s.l + 1) with pc := s.pc + 1 } ∧
    exec (cell 0x2A) s = .next
      { s.setPair .hl (word s.h s.l + 1) with a := s.load8 (word s.h s.l), pc := s.pc + 1 } ∧
    exec (cell 0x32) s = .next
      { (s.store8 (word s.h s.l) s.a).setPair .hl (word s.h s.l - 1) with pc := s.pc + 1 } ∧
    exec (cell 0x3A) s = .next
      { s.setPair .hl (word s.h s.l - 1) with a := s.load8 (word s.h s.l), pc := s.pc + 1 }

/-! ## 16-bit loads and the stack -/

/-- R180, R181, R182: the 16-bit loads and the store of SP, low byte first. -/
def Obligations.SixteenBitLoadsAndStoreOfSp : Prop :=
  ∀ (p : Rp) (s : State),
    exec (cell (at8 0x01 (16 * p.index))) s = .next { s.setPair p.toReg16 (nn s) with pc := s.pc + 3 } ∧
    exec (cell 0x08) s = .next
      { (s.store8 (nn s) (BitVec.ofNat 8 s.sp.toNat)).store8 (nn s + 1) (BitVec.ofNat 8 (s.sp.toNat / 256)) with
        pc := s.pc + 3 } ∧
    exec (cell 0xF9) s = .next { s with sp := word s.h s.l, pc := s.pc + 1 }

/-- R183, R232: `LD HL,SP+d` and `ADD SP,d`. -/
def Obligations.StackPointerPlusDisplacement : Prop :=
  ∀ s : State,
    exec (cell 0xF8) s = .next
      { s.setPair .hl (s.sp + disp (n8 s)) with f := lowByteFlags s.sp (n8 s), pc := s.pc + 2 } ∧
    exec (cell 0xE8) s = .next
      { s with sp := s.sp + disp (n8 s), f := lowByteFlags s.sp (n8 s), pc := s.pc + 2 }

/-- R184: PUSH writes the high byte at `sp - 1`, then the low byte at `sp - 2`. -/
def Obligations.PushOfAPair : Prop :=
  ∀ (p : Rp2) (s : State),
    exec (cell (at8 0xC5 (16 * p.index))) s = .next
      { (s.store8 (s.sp - 1) (BitVec.ofNat 8 ((s.pair p.toReg16).toNat / 256))).store8 (s.sp - 2)
          (BitVec.ofNat 8 (s.pair p.toReg16).toNat) with
        sp := s.sp - 2
        pc := s.pc + 1 }

/-- R185: POP reads the low byte at `sp`, then the high byte at `sp + 1`; for AF the flags come from the low byte. -/
def Obligations.PopOfAPair : Prop :=
  ∀ (p : Rp2) (s : State),
    exec (cell (at8 0xC1 (16 * p.index))) s = .next
      { s.setPair p.toReg16 (word (s.load8 (s.sp + 1)) (s.load8 s.sp)) with sp := s.sp + 2, pc := s.pc + 1 }

/-- PUSH and then POP of the same pair restore every register, flag and `sp`; only `pc` and the two stack bytes moved. -/
def Obligations.PopAfterPushRestoresThePair : Prop :=
  ∀ (p : Rp2) (s : State), ∃ t u : State,
    exec (cell (at8 0xC5 (16 * p.index))) s = .next t ∧ exec (cell (at8 0xC1 (16 * p.index))) t = .next u ∧
    u = { s with mem := t.mem, pc := s.pc + 2 }

/-! ## 8-bit arithmetic and logic -/

/-- R201, R202: ADD in its memory and immediate forms, ADC in every form. -/
def Obligations.AddAndAddWithCarry : Prop :=
  ∀ (x : Operand8) (s : State),
    ((x = .memHl ∨ x = .imm) →
      exec (cell (operandByte 0 x)) s = .next
        { s with
          a := BitVec.ofNat 8 (s.a.toNat + (operand x s).toNat)
          f := { z := decide ((s.a.toNat + (operand x s).toNat) % 256 = 0)
                 n := false
                 h := decide (s.a.toNat % 16 + (operand x s).toNat % 16 > 0xF)
                 c := decide (s.a.toNat + (operand x s).toNat > 255) }
          pc := s.pc + operandLength x }) ∧
    exec (cell (operandByte 1 x)) s = .next
      { s with
        a := BitVec.ofNat 8 (s.a.toNat + (operand x s).toNat + s.f.c.toNat)
        f := { z := decide ((s.a.toNat + (operand x s).toNat + s.f.c.toNat) % 256 = 0)
               n := false
               h := decide (s.a.toNat % 16 + (operand x s).toNat % 16 + s.f.c.toNat > 0xF)
               c := decide (s.a.toNat + (operand x s).toNat + s.f.c.toNat > 255) }
        pc := s.pc + operandLength x }

/-- R203, R204, R208: SUB, SBC and CP in every form; CP leaves A. -/
def Obligations.SubtractAndCompare : Prop :=
  ∀ (x : Operand8) (s : State),
    exec (cell (operandByte 2 x)) s = .next
      { s with
        a := BitVec.ofInt 8 ((s.a.toNat : Int) - (operand x s).toNat)
        f := { z := decide (((s.a.toNat : Int) - (operand x s).toNat) % 256 = 0)
               n := true
               h := decide (s.a.toNat % 16 < (operand x s).toNat % 16)
               c := decide (s.a.toNat < (operand x s).toNat) }
        pc := s.pc + operandLength x } ∧
    exec (cell (operandByte 3 x)) s = .next
      { s with
        a := BitVec.ofInt 8 ((s.a.toNat : Int) - (operand x s).toNat - s.f.c.toNat)
        f := { z := decide (((s.a.toNat : Int) - (operand x s).toNat - s.f.c.toNat) % 256 = 0)
               n := true
               h := decide (s.a.toNat % 16 < (operand x s).toNat % 16 + s.f.c.toNat)
               c := decide (s.a.toNat < (operand x s).toNat + s.f.c.toNat) }
        pc := s.pc + operandLength x } ∧
    exec (cell (operandByte 7 x)) s = .next
      { s with
        f := { z := decide (s.a = operand x s)
               n := true
               h := decide (s.a.toNat % 16 < (operand x s).toNat % 16)
               c := decide (s.a.toNat < (operand x s).toNat) }
        pc := s.pc + operandLength x }

/-- R205, R206, R207: AND, XOR, OR in every form; only AND sets H. -/
def Obligations.LogicOperations : Prop :=
  ∀ (x : Operand8) (s : State),
    exec (cell (operandByte 4 x)) s = .next
      { s with
        a := s.a &&& operand x s
        f := { z := decide (s.a &&& operand x s = 0), n := false, h := true, c := false }
        pc := s.pc + operandLength x } ∧
    exec (cell (operandByte 5 x)) s = .next
      { s with
        a := s.a ^^^ operand x s
        f := { z := decide (s.a ^^^ operand x s = 0), n := false, h := false, c := false }
        pc := s.pc + operandLength x } ∧
    exec (cell (operandByte 6 x)) s = .next
      { s with
        a := s.a ||| operand x s
        f := { z := decide (s.a ||| operand x s = 0), n := false, h := false, c := false }
        pc := s.pc + operandLength x }

/-- R209, R210: INC and DEC of a register or of the byte at HL; C is kept. -/
def Obligations.EightBitIncrementAndDecrement : Prop :=
  ∀ (x : Loc8) (s : State),
    exec (cell (at8 0x04 (8 * x.index))) s = .next
      { written x ((value x s).toNat + 1) s with
        f := { z := decide (((value x s).toNat + 1) % 256 = 0), n := false
               h := decide ((value x s).toNat % 16 = 0xF), c := s.f.c }
        pc := s.pc + 1 } ∧
    exec (cell (at8 0x05 (8 * x.index))) s = .next
      { written x ((value x s).toNat + 255) s with
        f := { z := decide (((value x s).toNat + 255) % 256 = 0), n := true
               h := decide ((value x s).toNat % 16 = 0x0), c := s.f.c }
        pc := s.pc + 1 }

/-! ## 16-bit arithmetic -/

/-- R230, R231: `ADD HL,rr` (Z kept) and `DEC rr` (no flag written). -/
def Obligations.SixteenBitAddAndDecrement : Prop :=
  ∀ (p : Rp) (s : State),
    exec (cell (at8 0x09 (16 * p.index))) s = .next
      { s.setPair .hl (BitVec.ofNat 16 ((word s.h s.l).toNat + (s.pair p.toReg16).toNat)) with
        f := { z := s.f.z
               n := false
               h := decide ((word s.h s.l).toNat % 4096 + (s.pair p.toReg16).toNat % 4096 > 0x0FFF)
               c := decide ((word s.h s.l).toNat + (s.pair p.toReg16).toNat > 0xFFFF) }
        pc := s.pc + 1 } ∧
    exec (cell (at8 0x0B (16 * p.index))) s = .next
      { s.setPair p.toReg16 (BitVec.ofNat 16 ((s.pair p.toReg16).toNat + 0xFFFF)) with pc := s.pc + 1 }

/-! ## Accumulator rotates and miscellany -/

/-- R240, R246, R247, R248: NOP, CPL, SCF, CCF. -/
def Obligations.NopAndFlagOperations : Prop :=
  ∀ s : State,
    exec (cell 0x00) s = .next { s with pc := s.pc + 1 } ∧
    exec (cell 0x2F) s = .next
      { s with a := BitVec.ofNat 8 (255 - s.a.toNat), f := ⟨s.f.z, true, true, s.f.c⟩, pc := s.pc + 1 } ∧
    exec (cell 0x37) s = .next { s with f := ⟨s.f.z, false, false, true⟩, pc := s.pc + 1 } ∧
    exec (cell 0x3F) s = .next { s with f := ⟨s.f.z, false, false, !s.f.c⟩, pc := s.pc + 1 }

/-- R241 to R244: RLCA, RRCA, RLA, RRA; Z is always cleared. -/
def Obligations.AccumulatorRotates : Prop :=
  ∀ s : State,
    exec (cell 0x07) s = .next
      { s with a := BitVec.ofNat 8 (rotated .rlc s.a.toNat s.f.c.toNat)
               f := ⟨false, false, false, movedOut .rlc s.a.toNat⟩, pc := s.pc + 1 } ∧
    exec (cell 0x0F) s = .next
      { s with a := BitVec.ofNat 8 (rotated .rrc s.a.toNat s.f.c.toNat)
               f := ⟨false, false, false, movedOut .rrc s.a.toNat⟩, pc := s.pc + 1 } ∧
    exec (cell 0x17) s = .next
      { s with a := BitVec.ofNat 8 (rotated .rl s.a.toNat s.f.c.toNat)
               f := ⟨false, false, false, movedOut .rl s.a.toNat⟩, pc := s.pc + 1 } ∧
    exec (cell 0x1F) s = .next
      { s with a := BitVec.ofNat 8 (rotated .rr s.a.toNat s.f.c.toNat)
               f := ⟨false, false, false, movedOut .rr s.a.toNat⟩, pc := s.pc + 1 }

/-- The operation and flags of R245: DAA on every A and every flag combination. -/
def Obligations.DecimalAdjustOperation : Prop :=
  ∀ s : State,
    exec (cell 0x27) s = .next
      { s with
        a := BitVec.ofNat 8 (daaValue s.a.toNat s.f)
        f := { z := decide (daaValue s.a.toNat s.f = 0), n := s.f.n, h := false
               c := s.f.c || (!s.f.n && decide (s.a.toNat > 0x99)) }
        pc := s.pc + 1 }

/-- The property of R245: for packed decimal bytes, ADD A and then DAA leave the decimal sum modulo 100 with the carry
at 100, and SUB A and then DAA the decimal difference modulo 100 with the borrow. Every operand form of R200: register,
byte at HL, immediate. The register forms of ADD add where R130 says so: under `completed`, or with a selector in
`ADD_IMPL`. -/
def Obligations.DecimalAdjustMakesDecimalArithmetic : Prop :=
  ∀ (o : Operand8) (x y : Nat) (s : State), x < 100 → y < 100 → s.a = bcd x → operand o s = bcd y →
    ((∀ r, o = .reg r → s.cfg.profile = .completed ∨ r ∈ s.cfg.addImpl) →
      ∃ t u : State, exec (cell (operandByte 0 o)) s = .next t ∧ exec (cell 0x27) t = .next u ∧
        u.a = bcd ((x + y) % 100) ∧ u.f.c = decide (x + y ≥ 100)) ∧
    ∃ t u : State, exec (cell (operandByte 2 o)) s = .next t ∧ exec (cell 0x27) t = .next u ∧
      u.a = bcd ((x + 100 - y) % 100) ∧ u.f.c = decide (x < y)

/-! ## Prefixed operations -/

/-- R261 to R268: the prefixed rotates and shifts of a register or of the byte at HL; `RLC r` is R132's. -/
def Obligations.PrefixedRotatesAndShifts : Prop :=
  ∀ (op : RotOp) (x : Loc8) (s : State), (op = .rlc → x = .memHl) →
    exec (cbCell (at8 (8 * op.index) x.index)) s = .next
      { written x (rotated op (value x s).toNat s.f.c.toNat) s with
        f := { z := decide (rotated op (value x s).toNat s.f.c.toNat = 0), n := false, h := false
               c := movedOut op (value x s).toNat }
        pc := s.pc + 2 }

/-- R269, R270, R271: BIT, RES, SET of each bit of a register or of the byte at HL. -/
def Obligations.BitResetAndSet : Prop :=
  ∀ (b : Fin 8) (x : Loc8) (s : State),
    exec (cbCell (at8 0x40 (8 * b.val + x.index))) s = .next
      { s with
        f := { z := decide ((value x s).toNat / 2 ^ b.val % 2 = 0), n := false, h := true, c := s.f.c }
        pc := s.pc + 2 } ∧
    exec (cbCell (at8 0x80 (8 * b.val + x.index))) s = .next
      { written x ((value x s).toNat - (value x s).toNat / 2 ^ b.val % 2 * 2 ^ b.val) s with pc := s.pc + 2 } ∧
    exec (cbCell (at8 0xC0 (8 * b.val + x.index))) s = .next
      { written x ((value x s).toNat + (1 - (value x s).toNat / 2 ^ b.val % 2) * 2 ^ b.val) s with pc := s.pc + 2 }

/-- The row `prefix_CB` (R87, R111): the second byte is looked up in the prefixed table under TABLE, and the result is the
instruction of that cell, or IllegalOpcode with the prefixed flag (log 6). -/
def Obligations.MarkerRunsTheSecondTable : Prop :=
  ∀ (op2 : Byte) (s : State),
    (¬unknownCell s.cfg.table op2 true → exec (.prefixCB op2) s = exec (decodeCell s.cfg.table op2 true) s) ∧
    (unknownCell s.cfg.table op2 true → exec (.prefixCB op2) s = .next { s with halted := some ⟨op2, true, s.pc⟩ })

/-! ## Control transfer -/

/-- R280, R281, R282: JR and JP HL. -/
def Obligations.RelativeAndIndirectJumps : Prop :=
  ∀ (cc : Cond) (s : State),
    (taken cc s → exec (cell (cc.byte 0x20 0x18)) s = .next { s with pc := s.pc + 2 + disp (n8 s) }) ∧
    (¬taken cc s → exec (cell (cc.byte 0x20 0x18)) s = .next { s with pc := s.pc + 2 }) ∧
    (¬taken cc s → kindAccesses (cell (cc.byte 0x20 0x18)).kind s = []) ∧
    exec (cell 0xE9) s = .next { s with pc := word s.h s.l } ∧
    kindAccesses (cell 0xE9).kind s = []

/-- R283, R284: CALL pushes the address after its three bytes, high byte at `sp - 1`, and jumps to the operand read
before the push. -/
def Obligations.CallsPushTheReturnAddress : Prop :=
  ∀ (cc : Cond) (s : State),
    (taken cc s → exec (cell (cc.byte 0xC4 0xCD)) s = .next
      { (s.store8 (s.sp - 1) (BitVec.ofNat 8 ((s.pc + 3).toNat / 256))).store8 (s.sp - 2)
          (BitVec.ofNat 8 (s.pc + 3).toNat) with
        sp := s.sp - 2
        pc := nn s }) ∧
    (¬taken cc s → exec (cell (cc.byte 0xC4 0xCD)) s = .next { s with pc := s.pc + 3 }) ∧
    (¬taken cc s → kindAccesses (cell (cc.byte 0xC4 0xCD)).kind s = [])

/-- R285, R286: RET pops the next `pc`; not taken, it reads no stack byte. -/
def Obligations.ReturnsPopTheNextPc : Prop :=
  ∀ (cc : Cond) (s : State),
    (taken cc s → exec (cell (cc.byte 0xC0 0xC9)) s = .next
      { s with sp := s.sp + 2, pc := word (s.load8 (s.sp + 1)) (s.load8 s.sp) }) ∧
    (¬taken cc s → exec (cell (cc.byte 0xC0 0xC9)) s = .next { s with pc := s.pc + 1 }) ∧
    (¬taken cc s → kindAccesses (cell (cc.byte 0xC0 0xC9)).kind s = [])

/-- R287: RST pushes the address after its one byte and goes to `8 * y`. -/
def Obligations.RestartsCallTheirTarget : Prop :=
  ∀ (y : Fin 7) (s : State),
    exec (cell (at8 0xC7 (8 * y.val))) s = .next
      { (s.store8 (s.sp - 1) (BitVec.ofNat 8 ((s.pc + 1).toNat / 256))).store8 (s.sp - 2)
          (BitVec.ofNat 8 (s.pc + 1).toNat) with
        sp := s.sp - 2
        pc := BitVec.ofNat 16 (8 * y.val) }

/-- A RET straight after a CALL that was taken comes back to the instruction after the CALL with `sp` as before. -/
def Obligations.ReturnComesBackFromTheCall : Prop :=
  ∀ (cc : Cond) (s : State), taken cc s →
    ∃ t u : State, exec (cell (cc.byte 0xC4 0xCD)) s = .next t ∧ exec (cell 0xC9) t = .next u ∧
      u = { s with mem := t.mem, pc := s.pc + 3 }
end

