-- ==== Sys2Proof/Laws/Bits.lean ====
section
/-! SUPPORT. Laws of the bit-field helpers and of the flags byte. -/

namespace Sys2Proof.Machine

theorem toNat_join (h l : Byte) : (join h l).toNat = h.toNat * 256 + l.toNat := by
  unfold join
  rw [BitVec.toNat_append, ← Nat.shiftLeft_add_eq_or_of_lt l.isLt, Nat.shiftLeft_eq]

theorem toNat_hi8 (v : Word) : (hi8 v).toNat = v.toNat / 256 := by
  unfold hi8; simp [Nat.shiftRight_eq_div_pow]; omega

theorem toNat_lo8 (v : Word) : (lo8 v).toNat = v.toNat % 256 := by
  unfold lo8; simp

theorem join_eq_ofNat (h l : Byte) : join h l = BitVec.ofNat 16 (h.toNat * 256 + l.toNat) := by
  apply BitVec.eq_of_toNat_eq
  rw [toNat_join, BitVec.toNat_ofNat]
  omega

@[simp] theorem hi8_join (h l : Byte) : hi8 (join h l) = h := by
  apply BitVec.eq_of_toNat_eq; rw [toNat_hi8, toNat_join]; omega

@[simp] theorem lo8_join (h l : Byte) : lo8 (join h l) = l := by
  apply BitVec.eq_of_toNat_eq; rw [toNat_lo8, toNat_join]; omega

@[simp] theorem join_hi8_lo8 (v : Word) : join (hi8 v) (lo8 v) = v := by
  apply BitVec.eq_of_toNat_eq; rw [toNat_join, toNat_hi8, toNat_lo8]; omega

/-- `sext_16` as R10 writes it. -/
theorem sext16_eq (d : Byte) : sext16 d = if d.toNat < 0x80 then BitVec.ofNat 16 d.toNat else BitVec.ofNat 16 (d.toNat + 0xFF00) := by
  revert d; decide

@[simp] theorem decodeFlags_encodeFlags (f : Flags) : decodeFlags (encodeFlags f) = f := by
  obtain ⟨z, n, h, c⟩ := f
  revert z n h c
  decide

theorem encodeFlags_decodeFlags (b : Byte) : encodeFlags (decodeFlags b) = b &&& 0xF0 := by
  revert b; decide

/-- Clearing the low nibble of a word is clearing that of its low byte (R28). -/
theorem join_and_lowNibble (h l : Byte) : join h (l &&& 0xF0) = join h l &&& 0xFFF0 := by
  have h1 : ∀ x : Byte, (x &&& 0xF0).toNat = x.toNat / 16 * 16 := by decide +kernel
  have h2 : ∀ x : Word, x &&& (0xFFF0 : Word) = (x >>> 4) <<< 4 := by
    intro x
    apply BitVec.eq_of_getLsbD_eq
    intro i hi
    have hi : i < 16 := hi
    interval_cases i <;> simp
  rw [h2]
  apply BitVec.eq_of_toNat_eq
  rw [toNat_join, h1, BitVec.toNat_shiftLeft, BitVec.toNat_ushiftRight, toNat_join, Nat.shiftRight_eq_div_pow,
    Nat.shiftLeft_eq]
  have := h.isLt
  have := l.isLt
  omega

end Sys2Proof.Machine
end

