-- ==== Sys2Proof/Laws/Cells.lean ====
section
/-! SUPPORT. The kind of the cell at each encoding the instruction rules give (spec files 41 to 48), so that a statement
about a byte becomes a statement about a kind. -/

namespace Sys2Proof

theorem kind_ldPairImm (p : Rp) : (decodeCell .tFull (BitVec.ofNat 8 (0x01 + 16 * p.index)) false).kind = .ldPairImm p := by
  cases p <;> rfl

theorem kind_incPair (p : Rp) : (decodeCell .tFull (BitVec.ofNat 8 (0x03 + 16 * p.index)) false).kind = .inc p := by
  cases p <;> rfl

theorem kind_inc8 (x : Loc8) : (decodeCell .tFull (BitVec.ofNat 8 (0x04 + 8 * x.index)) false).kind = .inc8 x := by
  rcases x with r | _
  · cases r <;> rfl
  · rfl

theorem kind_dec8 (x : Loc8) : (decodeCell .tFull (BitVec.ofNat 8 (0x05 + 8 * x.index)) false).kind = .dec8 x := by
  rcases x with r | _
  · cases r <;> rfl
  · rfl

theorem kind_ldRegImm (r : Reg8) : (decodeCell .tFull (BitVec.ofNat 8 (0x06 + 8 * r.index)) false).kind = .ldRegImm r := by
  cases r <;> rfl

theorem kind_addHl (p : Rp) : (decodeCell .tFull (BitVec.ofNat 8 (0x09 + 16 * p.index)) false).kind = .addHl p := by
  cases p <;> rfl

theorem kind_dec16 (p : Rp) : (decodeCell .tFull (BitVec.ofNat 8 (0x0B + 16 * p.index)) false).kind = .dec16 p := by
  cases p <;> rfl

theorem kind_ldRegReg (rd rs : Reg8) :
    (decodeCell .tFull (BitVec.ofNat 8 (0x40 + (8 * rd.index + rs.index))) false).kind = .ldRegReg rd rs := by
  cases rd <;> cases rs <;> rfl

theorem kind_ldRegMemHl (r : Reg8) :
    (decodeCell .tFull (BitVec.ofNat 8 (0x46 + 8 * r.index)) false).kind = .ldRegMemHl r := by cases r <;> rfl

theorem kind_ldMemHlReg (r : Reg8) :
    (decodeCell .tFull (BitVec.ofNat 8 (0x70 + r.index)) false).kind = .ldMemHlReg r := by cases r <;> rfl

theorem kind_addReg {t : Table} (h : t ≠ .tSrc) (r : Reg8) :
    (decodeCell t (BitVec.ofNat 8 (0x80 + r.index)) false).kind = .alu .add (.reg r) := by
  cases t <;> cases r <;> first | exact absurd rfl h | rfl

theorem kind_alu (op : AluOp) (x : Operand8) : (decodeCell .tFull (aluByte op x) false).kind = .alu op x := by
  rcases x with r | _ | _
  · cases op <;> cases r <;> rfl
  · cases op <;> rfl
  · cases op <;> rfl

theorem kind_jp {t : Table} (h : t ≠ .tSrc) (cc : Cond) : (decodeCell t (cc.byte 0xC2 0xC3) false).kind = .jp cc := by
  cases t <;> cases cc <;> first | exact absurd rfl h | rfl

theorem kind_jr (cc : Cond) : (decodeCell .tFull (cc.byte 0x20 0x18) false).kind = .jr cc := by cases cc <;> rfl

theorem kind_call (cc : Cond) : (decodeCell .tFull (cc.byte 0xC4 0xCD) false).kind = .call cc := by cases cc <;> rfl

theorem kind_ret (cc : Cond) : (decodeCell .tFull (cc.byte 0xC0 0xC9) false).kind = .ret cc := by cases cc <;> rfl

theorem kind_rst (y : Fin 7) : (decodeCell .tFull (BitVec.ofNat 8 (0xC7 + 8 * y.val)) false).kind = .rst y := by
  revert y; decide

theorem kind_push (p : Rp2) : (decodeCell .tFull (BitVec.ofNat 8 (0xC5 + 16 * p.index)) false).kind = .push p := by
  cases p <;> rfl

theorem kind_pop (p : Rp2) : (decodeCell .tFull (BitVec.ofNat 8 (0xC1 + 16 * p.index)) false).kind = .pop p := by
  cases p <;> rfl

/-- The prefixed cell at the second byte of an operation, for every operation and operand (R94, R260). -/
theorem kind_cb (op : CbOp) (x : Loc8) : (decodeCell .tFull (cbByte op x) true).kind = .cb op x := by
  rcases op with o | b | b | b <;> rcases x with r | _
  · cases o <;> cases r <;> rfl
  · cases o <;> rfl
  all_goals first
    | (revert b; cases r <;> decide)
    | (revert b; decide)

end Sys2Proof
end

