-- ==== Sys2Proof/Laws/State.lean ====
section
/-! SUPPORT. One lemma per field per update of State, each tagged `@[simp]`, so that no later proof unfolds a record
update; and the laws of the register accessors. -/

namespace Sys2Proof.Machine

/-! ## setReg -/

@[simp] theorem State.setReg_f (s : State) (r : Reg8) (v : Byte) : (s.setReg r v).f = s.f := by cases r <;> rfl
@[simp] theorem State.setReg_pc (s : State) (r : Reg8) (v : Byte) : (s.setReg r v).pc = s.pc := by cases r <;> rfl
@[simp] theorem State.setReg_sp (s : State) (r : Reg8) (v : Byte) : (s.setReg r v).sp = s.sp := by cases r <;> rfl
@[simp] theorem State.setReg_halted (s : State) (r : Reg8) (v : Byte) : (s.setReg r v).halted = s.halted := by cases r <;> rfl
@[simp] theorem State.setReg_mem (s : State) (r : Reg8) (v : Byte) : (s.setReg r v).mem = s.mem := by cases r <;> rfl
@[simp] theorem State.setReg_cfg (s : State) (r : Reg8) (v : Byte) : (s.setReg r v).cfg = s.cfg := by cases r <;> rfl

/-! ## setPair -/

@[simp] theorem State.setPair_pc (s : State) (rr : Reg16) (v : Word) : (s.setPair rr v).pc = s.pc := by cases rr <;> rfl
@[simp] theorem State.setPair_halted (s : State) (rr : Reg16) (v : Word) : (s.setPair rr v).halted = s.halted := by cases rr <;> rfl
@[simp] theorem State.setPair_mem (s : State) (rr : Reg16) (v : Word) : (s.setPair rr v).mem = s.mem := by cases rr <;> rfl
@[simp] theorem State.setPair_cfg (s : State) (rr : Reg16) (v : Word) : (s.setPair rr v).cfg = s.cfg := by cases rr <;> rfl

/-! ## setFlags -/

@[simp] theorem State.setFlags_a (s : State) (f : Flags) : (s.setFlags f).a = s.a := rfl
@[simp] theorem State.setFlags_b (s : State) (f : Flags) : (s.setFlags f).b = s.b := rfl
@[simp] theorem State.setFlags_c (s : State) (f : Flags) : (s.setFlags f).c = s.c := rfl
@[simp] theorem State.setFlags_d (s : State) (f : Flags) : (s.setFlags f).d = s.d := rfl
@[simp] theorem State.setFlags_e (s : State) (f : Flags) : (s.setFlags f).e = s.e := rfl
@[simp] theorem State.setFlags_h (s : State) (f : Flags) : (s.setFlags f).h = s.h := rfl
@[simp] theorem State.setFlags_l (s : State) (f : Flags) : (s.setFlags f).l = s.l := rfl
@[simp] theorem State.setFlags_f (s : State) (f : Flags) : (s.setFlags f).f = f := rfl
@[simp] theorem State.setFlags_pc (s : State) (f : Flags) : (s.setFlags f).pc = s.pc := rfl
@[simp] theorem State.setFlags_sp (s : State) (f : Flags) : (s.setFlags f).sp = s.sp := rfl
@[simp] theorem State.setFlags_halted (s : State) (f : Flags) : (s.setFlags f).halted = s.halted := rfl
@[simp] theorem State.setFlags_mem (s : State) (f : Flags) : (s.setFlags f).mem = s.mem := rfl
@[simp] theorem State.setFlags_cfg (s : State) (f : Flags) : (s.setFlags f).cfg = s.cfg := rfl

/-! ## writeF -/

@[simp] theorem State.writeF_a (s : State) (v : Byte) : (s.writeF v).a = s.a := rfl
@[simp] theorem State.writeF_b (s : State) (v : Byte) : (s.writeF v).b = s.b := rfl
@[simp] theorem State.writeF_c (s : State) (v : Byte) : (s.writeF v).c = s.c := rfl
@[simp] theorem State.writeF_d (s : State) (v : Byte) : (s.writeF v).d = s.d := rfl
@[simp] theorem State.writeF_e (s : State) (v : Byte) : (s.writeF v).e = s.e := rfl
@[simp] theorem State.writeF_h (s : State) (v : Byte) : (s.writeF v).h = s.h := rfl
@[simp] theorem State.writeF_l (s : State) (v : Byte) : (s.writeF v).l = s.l := rfl
@[simp] theorem State.writeF_f (s : State) (v : Byte) : (s.writeF v).f = decodeFlags v := rfl
@[simp] theorem State.writeF_pc (s : State) (v : Byte) : (s.writeF v).pc = s.pc := rfl
@[simp] theorem State.writeF_sp (s : State) (v : Byte) : (s.writeF v).sp = s.sp := rfl
@[simp] theorem State.writeF_halted (s : State) (v : Byte) : (s.writeF v).halted = s.halted := rfl
@[simp] theorem State.writeF_mem (s : State) (v : Byte) : (s.writeF v).mem = s.mem := rfl
@[simp] theorem State.writeF_cfg (s : State) (v : Byte) : (s.writeF v).cfg = s.cfg := rfl

/-! ## setPc -/

@[simp] theorem State.setPc_a (s : State) (v : Word) : (s.setPc v).a = s.a := rfl
@[simp] theorem State.setPc_b (s : State) (v : Word) : (s.setPc v).b = s.b := rfl
@[simp] theorem State.setPc_c (s : State) (v : Word) : (s.setPc v).c = s.c := rfl
@[simp] theorem State.setPc_d (s : State) (v : Word) : (s.setPc v).d = s.d := rfl
@[simp] theorem State.setPc_e (s : State) (v : Word) : (s.setPc v).e = s.e := rfl
@[simp] theorem State.setPc_h (s : State) (v : Word) : (s.setPc v).h = s.h := rfl
@[simp] theorem State.setPc_l (s : State) (v : Word) : (s.setPc v).l = s.l := rfl
@[simp] theorem State.setPc_f (s : State) (v : Word) : (s.setPc v).f = s.f := rfl
@[simp] theorem State.setPc_pc (s : State) (v : Word) : (s.setPc v).pc = v := rfl
@[simp] theorem State.setPc_sp (s : State) (v : Word) : (s.setPc v).sp = s.sp := rfl
@[simp] theorem State.setPc_halted (s : State) (v : Word) : (s.setPc v).halted = s.halted := rfl
@[simp] theorem State.setPc_mem (s : State) (v : Word) : (s.setPc v).mem = s.mem := rfl
@[simp] theorem State.setPc_cfg (s : State) (v : Word) : (s.setPc v).cfg = s.cfg := rfl

/-! ## advance -/

@[simp] theorem State.advance_a (s : State) (n : Word) : (s.advance n).a = s.a := rfl
@[simp] theorem State.advance_b (s : State) (n : Word) : (s.advance n).b = s.b := rfl
@[simp] theorem State.advance_c (s : State) (n : Word) : (s.advance n).c = s.c := rfl
@[simp] theorem State.advance_d (s : State) (n : Word) : (s.advance n).d = s.d := rfl
@[simp] theorem State.advance_e (s : State) (n : Word) : (s.advance n).e = s.e := rfl
@[simp] theorem State.advance_h (s : State) (n : Word) : (s.advance n).h = s.h := rfl
@[simp] theorem State.advance_l (s : State) (n : Word) : (s.advance n).l = s.l := rfl
@[simp] theorem State.advance_f (s : State) (n : Word) : (s.advance n).f = s.f := rfl
@[simp] theorem State.advance_pc (s : State) (n : Word) : (s.advance n).pc = s.pc + n := rfl
@[simp] theorem State.advance_sp (s : State) (n : Word) : (s.advance n).sp = s.sp := rfl
@[simp] theorem State.advance_halted (s : State) (n : Word) : (s.advance n).halted = s.halted := rfl
@[simp] theorem State.advance_mem (s : State) (n : Word) : (s.advance n).mem = s.mem := rfl
@[simp] theorem State.advance_cfg (s : State) (n : Word) : (s.advance n).cfg = s.cfg := rfl

/-! ## store8 -/

@[simp] theorem State.store8_a (s : State) (a : Word) (v : Byte) : (s.store8 a v).a = s.a := rfl
@[simp] theorem State.store8_b (s : State) (a : Word) (v : Byte) : (s.store8 a v).b = s.b := rfl
@[simp] theorem State.store8_c (s : State) (a : Word) (v : Byte) : (s.store8 a v).c = s.c := rfl
@[simp] theorem State.store8_d (s : State) (a : Word) (v : Byte) : (s.store8 a v).d = s.d := rfl
@[simp] theorem State.store8_e (s : State) (a : Word) (v : Byte) : (s.store8 a v).e = s.e := rfl
@[simp] theorem State.store8_h (s : State) (a : Word) (v : Byte) : (s.store8 a v).h = s.h := rfl
@[simp] theorem State.store8_l (s : State) (a : Word) (v : Byte) : (s.store8 a v).l = s.l := rfl
@[simp] theorem State.store8_f (s : State) (a : Word) (v : Byte) : (s.store8 a v).f = s.f := rfl
@[simp] theorem State.store8_pc (s : State) (a : Word) (v : Byte) : (s.store8 a v).pc = s.pc := rfl
@[simp] theorem State.store8_sp (s : State) (a : Word) (v : Byte) : (s.store8 a v).sp = s.sp := rfl
@[simp] theorem State.store8_halted (s : State) (a : Word) (v : Byte) : (s.store8 a v).halted = s.halted := rfl
@[simp] theorem State.store8_mem (s : State) (a : Word) (v : Byte) : (s.store8 a v).mem = Memory.write s.mem a v := rfl
@[simp] theorem State.store8_cfg (s : State) (a : Word) (v : Byte) : (s.store8 a v).cfg = s.cfg := rfl

/-! ## store16 -/

@[simp] theorem State.store16_a (s : State) (a v : Word) : (s.store16 a v).a = s.a := rfl
@[simp] theorem State.store16_b (s : State) (a v : Word) : (s.store16 a v).b = s.b := rfl
@[simp] theorem State.store16_c (s : State) (a v : Word) : (s.store16 a v).c = s.c := rfl
@[simp] theorem State.store16_d (s : State) (a v : Word) : (s.store16 a v).d = s.d := rfl
@[simp] theorem State.store16_e (s : State) (a v : Word) : (s.store16 a v).e = s.e := rfl
@[simp] theorem State.store16_h (s : State) (a v : Word) : (s.store16 a v).h = s.h := rfl
@[simp] theorem State.store16_l (s : State) (a v : Word) : (s.store16 a v).l = s.l := rfl
@[simp] theorem State.store16_f (s : State) (a v : Word) : (s.store16 a v).f = s.f := rfl
@[simp] theorem State.store16_pc (s : State) (a v : Word) : (s.store16 a v).pc = s.pc := rfl
@[simp] theorem State.store16_sp (s : State) (a v : Word) : (s.store16 a v).sp = s.sp := rfl
@[simp] theorem State.store16_halted (s : State) (a v : Word) : (s.store16 a v).halted = s.halted := rfl
@[simp] theorem State.store16_mem (s : State) (a v : Word) : (s.store16 a v).mem = Memory.write (Memory.write s.mem a (lo8 v)) (a + 1) (hi8 v) := rfl
@[simp] theorem State.store16_cfg (s : State) (a v : Word) : (s.store16 a v).cfg = s.cfg := rfl

/-! ## push16 -/

@[simp] theorem State.push16_a (s : State) (v : Word) : (s.push16 v).a = s.a := rfl
@[simp] theorem State.push16_b (s : State) (v : Word) : (s.push16 v).b = s.b := rfl
@[simp] theorem State.push16_c (s : State) (v : Word) : (s.push16 v).c = s.c := rfl
@[simp] theorem State.push16_d (s : State) (v : Word) : (s.push16 v).d = s.d := rfl
@[simp] theorem State.push16_e (s : State) (v : Word) : (s.push16 v).e = s.e := rfl
@[simp] theorem State.push16_h (s : State) (v : Word) : (s.push16 v).h = s.h := rfl
@[simp] theorem State.push16_l (s : State) (v : Word) : (s.push16 v).l = s.l := rfl
@[simp] theorem State.push16_f (s : State) (v : Word) : (s.push16 v).f = s.f := rfl
@[simp] theorem State.push16_pc (s : State) (v : Word) : (s.push16 v).pc = s.pc := rfl
@[simp] theorem State.push16_sp (s : State) (v : Word) : (s.push16 v).sp = s.sp - 2 := rfl
@[simp] theorem State.push16_halted (s : State) (v : Word) : (s.push16 v).halted = s.halted := rfl
@[simp] theorem State.push16_mem (s : State) (v : Word) : (s.push16 v).mem = Memory.write (Memory.write s.mem (s.sp - 1) (hi8 v)) (s.sp - 2) (lo8 v) := rfl
@[simp] theorem State.push16_cfg (s : State) (v : Word) : (s.push16 v).cfg = s.cfg := rfl

/-! ## drop16 -/

@[simp] theorem State.drop16_a (s : State) : (s.drop16).a = s.a := rfl
@[simp] theorem State.drop16_b (s : State) : (s.drop16).b = s.b := rfl
@[simp] theorem State.drop16_c (s : State) : (s.drop16).c = s.c := rfl
@[simp] theorem State.drop16_d (s : State) : (s.drop16).d = s.d := rfl
@[simp] theorem State.drop16_e (s : State) : (s.drop16).e = s.e := rfl
@[simp] theorem State.drop16_h (s : State) : (s.drop16).h = s.h := rfl
@[simp] theorem State.drop16_l (s : State) : (s.drop16).l = s.l := rfl
@[simp] theorem State.drop16_f (s : State) : (s.drop16).f = s.f := rfl
@[simp] theorem State.drop16_pc (s : State) : (s.drop16).pc = s.pc := rfl
@[simp] theorem State.drop16_sp (s : State) : (s.drop16).sp = s.sp + 2 := rfl
@[simp] theorem State.drop16_halted (s : State) : (s.drop16).halted = s.halted := rfl
@[simp] theorem State.drop16_mem (s : State) : (s.drop16).mem = s.mem := rfl
@[simp] theorem State.drop16_cfg (s : State) : (s.drop16).cfg = s.cfg := rfl

/-! ## setLoc8 -/

@[simp] theorem State.setLoc8_f (s : State) (x : Loc8) (v : Byte) : (s.setLoc8 x v).f = s.f := by cases x <;> simp [State.setLoc8]
@[simp] theorem State.setLoc8_pc (s : State) (x : Loc8) (v : Byte) : (s.setLoc8 x v).pc = s.pc := by cases x <;> simp [State.setLoc8]
@[simp] theorem State.setLoc8_sp (s : State) (x : Loc8) (v : Byte) : (s.setLoc8 x v).sp = s.sp := by cases x <;> simp [State.setLoc8]
@[simp] theorem State.setLoc8_halted (s : State) (x : Loc8) (v : Byte) : (s.setLoc8 x v).halted = s.halted := by cases x <;> simp [State.setLoc8]
@[simp] theorem State.setLoc8_cfg (s : State) (x : Loc8) (v : Byte) : (s.setLoc8 x v).cfg = s.cfg := by cases x <;> simp [State.setLoc8]

/-! ## raiseIllegal -/

@[simp] theorem raiseIllegal_a (op : Byte) (p : Bool) (s : State) : (raiseIllegal op p s).a = s.a := rfl
@[simp] theorem raiseIllegal_b (op : Byte) (p : Bool) (s : State) : (raiseIllegal op p s).b = s.b := rfl
@[simp] theorem raiseIllegal_c (op : Byte) (p : Bool) (s : State) : (raiseIllegal op p s).c = s.c := rfl
@[simp] theorem raiseIllegal_d (op : Byte) (p : Bool) (s : State) : (raiseIllegal op p s).d = s.d := rfl
@[simp] theorem raiseIllegal_e (op : Byte) (p : Bool) (s : State) : (raiseIllegal op p s).e = s.e := rfl
@[simp] theorem raiseIllegal_h (op : Byte) (p : Bool) (s : State) : (raiseIllegal op p s).h = s.h := rfl
@[simp] theorem raiseIllegal_l (op : Byte) (p : Bool) (s : State) : (raiseIllegal op p s).l = s.l := rfl
@[simp] theorem raiseIllegal_f (op : Byte) (p : Bool) (s : State) : (raiseIllegal op p s).f = s.f := rfl
@[simp] theorem raiseIllegal_pc (op : Byte) (p : Bool) (s : State) : (raiseIllegal op p s).pc = s.pc := rfl
@[simp] theorem raiseIllegal_sp (op : Byte) (p : Bool) (s : State) : (raiseIllegal op p s).sp = s.sp := rfl
@[simp] theorem raiseIllegal_halted (op : Byte) (p : Bool) (s : State) : (raiseIllegal op p s).halted = some { opcode := op, prefixed := p, addr := s.pc } := rfl
@[simp] theorem raiseIllegal_mem (op : Byte) (p : Bool) (s : State) : (raiseIllegal op p s).mem = s.mem := rfl
@[simp] theorem raiseIllegal_cfg (op : Byte) (p : Bool) (s : State) : (raiseIllegal op p s).cfg = s.cfg := rfl

/-! ## The accessors -/

@[simp] theorem State.reg_setReg (s : State) (r r' : Reg8) (v : Byte) :
    (s.setReg r v).reg r' = if r = r' then v else s.reg r' := by cases r <;> cases r' <;> rfl

theorem State.setReg_reg (s : State) (r : Reg8) : s.setReg r (s.reg r) = s := by cases r <;> rfl

@[simp] theorem State.reg_setFlags (s : State) (f : Flags) (r : Reg8) : (s.setFlags f).reg r = s.reg r := by cases r <;> rfl
@[simp] theorem State.reg_setPc (s : State) (v : Word) (r : Reg8) : (s.setPc v).reg r = s.reg r := by cases r <;> rfl
@[simp] theorem State.reg_advance (s : State) (n : Word) (r : Reg8) : (s.advance n).reg r = s.reg r := by cases r <;> rfl
@[simp] theorem State.reg_store8 (s : State) (a : Word) (v : Byte) (r : Reg8) : (s.store8 a v).reg r = s.reg r := by
  cases r <;> rfl
@[simp] theorem State.reg_store16 (s : State) (a v : Word) (r : Reg8) : (s.store16 a v).reg r = s.reg r := by
  cases r <;> rfl
@[simp] theorem State.reg_push16 (s : State) (v : Word) (r : Reg8) : (s.push16 v).reg r = s.reg r := by cases r <;> rfl
@[simp] theorem State.reg_drop16 (s : State) (r : Reg8) : s.drop16.reg r = s.reg r := by cases r <;> rfl
@[simp] theorem reg_raiseIllegal (op : Byte) (p : Bool) (s : State) (r : Reg8) : (raiseIllegal op p s).reg r = s.reg r := by
  cases r <;> rfl

/-- What a pair write does to one register. -/
theorem State.reg_setPair (s : State) (rr : Reg16) (v : Word) (r : Reg8) :
    (s.setPair rr v).reg r =
      match rr, r with
      | .bc, .b => hi8 v
      | .bc, .c => lo8 v
      | .de, .d => hi8 v
      | .de, .e => lo8 v
      | .hl, .h => hi8 v
      | .hl, .l => lo8 v
      | .af, .a => hi8 v
      | _, r => s.reg r := by cases rr <;> cases r <;> rfl

/-- The stack pointer after a pair write. -/
theorem State.setPair_sp (s : State) (rr : Reg16) (v : Word) :
    (s.setPair rr v).sp = if rr = .sp then v else s.sp := by cases rr <;> rfl

/-- The flags after a pair write. -/
theorem State.setPair_f (s : State) (rr : Reg16) (v : Word) :
    (s.setPair rr v).f = if rr = .af then decodeFlags (lo8 v) else s.f := by cases rr <;> rfl

end Sys2Proof.Machine
end

