-- ==== Sys2Proof/Laws/Memory.lean ====
section
/-! SUPPORT. The laws of memory: a read after a write, for every memory; and every operation keeps the canonical form. -/

namespace Sys2Proof.Machine

@[simp] theorem Memory.byteAt_nil (a : Nat) : Memory.byteAt [] a = unlistedByte := rfl

theorem Memory.byteAt_cons (k : Nat) (v : Byte) (m : Memory) (a : Nat) :
    Memory.byteAt ((k, v) :: m) a = if k = a then v else Memory.byteAt m a := rfl

theorem Memory.erase_cons (k : Nat) (v : Byte) (m : Memory) (a : Nat) :
    Memory.erase ((k, v) :: m) a = if k = a then Memory.erase m a else (k, v) :: Memory.erase m a := by
  by_cases h : k = a <;> simp [Memory.erase, h]

theorem Memory.byteAt_erase (m : Memory) (a b : Nat) :
    Memory.byteAt (Memory.erase m a) b = if a = b then unlistedByte else Memory.byteAt m b := by
  induction m with
  | nil => simp [Memory.erase]
  | cons x m ih =>
    obtain ⟨k, v⟩ := x
    rw [Memory.erase_cons, Memory.byteAt_cons]
    split <;> rename_i h
    · subst h; rw [ih]; split <;> simp_all
    · rw [Memory.byteAt_cons, ih]; split <;> split <;> simp_all

/-- No entry of an address is left. -/
def Memory.free (m : Memory) (a : Nat) : Prop := ∀ x ∈ m, x.1 ≠ a

theorem Memory.erase_free (m : Memory) (a : Nat) : Memory.free (Memory.erase m a) a := by
  intro x hx; simp [Memory.erase] at hx; exact hx.2

theorem Memory.byteAt_insertCell (m : Memory) (a : Nat) (v : Byte) (h : Memory.free m a) (b : Nat) :
    Memory.byteAt (Memory.insertCell m a v) b = if a = b then v else Memory.byteAt m b := by
  induction m with
  | nil => rfl
  | cons x m ih =>
    obtain ⟨k, w⟩ := x
    have hk : k ≠ a := h (k, w) (by simp)
    have hm : Memory.free m a := fun y hy => h y (by simp [hy])
    unfold Memory.insertCell
    split
    · rfl
    · rw [Memory.byteAt_cons, ih hm, Memory.byteAt_cons]
      by_cases h1 : k = b <;> by_cases h2 : a = b <;> simp_all

/-- A read after a write (R52, R53), in every memory. -/
theorem Memory.read_write (m : Memory) (a b : Word) (v : Byte) :
    Memory.read (Memory.write m a v) b = if a = b then v else Memory.read m b := by
  have e : a.toNat = b.toNat ↔ a = b := BitVec.toNat_inj
  unfold Memory.read Memory.write
  split <;> rename_i h
  · rw [Memory.byteAt_erase]; by_cases hab : a = b <;> simp_all
  · rw [Memory.byteAt_insertCell _ _ _ (Memory.erase_free _ _), Memory.byteAt_erase]
    by_cases hab : a = b <;> simp_all

@[simp] theorem Memory.read_write_same (m : Memory) (a : Word) (v : Byte) :
    Memory.read (Memory.write m a v) a = v := by simp [Memory.read_write]

theorem Memory.read_write_other (m : Memory) {a b : Word} (v : Byte) (h : a ≠ b) :
    Memory.read (Memory.write m a v) b = Memory.read m b := by simp [Memory.read_write, h]

theorem Memory.mem_insertCell (m : Memory) (a : Nat) (v : Byte) (x : Host.Cell) :
    x ∈ Memory.insertCell m a v ↔ x = (a, v) ∨ x ∈ m := by
  induction m with
  | nil => simp [Memory.insertCell]
  | cons y m ih =>
    obtain ⟨k, w⟩ := y
    unfold Memory.insertCell
    split
    · simp
    · simp [ih]; tauto

theorem Memory.pairwise_insertCell (m : Memory) (a : Nat) (v : Byte)
    (hs : m.Pairwise (fun x y => x.1 < y.1)) (h : Memory.free m a) :
    (Memory.insertCell m a v).Pairwise (fun x y => x.1 < y.1) := by
  induction m with
  | nil => simp [Memory.insertCell]
  | cons y m ih =>
    obtain ⟨k, w⟩ := y
    have hk : k ≠ a := h (k, w) (by simp)
    have hm : Memory.free m a := fun y hy => h y (by simp [hy])
    rw [List.pairwise_cons] at hs
    unfold Memory.insertCell
    split <;> rename_i hlt
    · refine List.pairwise_cons.2 ⟨fun y hy => ?_, List.pairwise_cons.2 hs⟩
      rcases List.mem_cons.1 hy with rfl | hy
      · exact hlt
      · exact Nat.lt_trans hlt (hs.1 y hy)
    · refine List.pairwise_cons.2 ⟨fun y hy => ?_, ih hs.2 hm⟩
      rcases (Memory.mem_insertCell m a v y).1 hy with rfl | hy
      · exact Nat.lt_of_le_of_ne (Nat.not_lt.1 hlt) hk
      · exact hs.1 y hy

theorem Memory.wf_nil : Memory.wf [] := by simp [Memory.wf]

theorem Memory.wf_erase {m : Memory} (h : Memory.wf m) (a : Nat) : Memory.wf (Memory.erase m a) :=
  ⟨h.1.filter _, fun x hx => h.2 x (List.mem_filter.1 hx).1⟩

/-- Every write keeps the canonical form. -/
theorem Memory.wf_write {m : Memory} (h : Memory.wf m) (a : Word) (v : Byte) : Memory.wf (Memory.write m a v) := by
  have he := Memory.wf_erase h a.toNat
  unfold Memory.write
  split <;> rename_i hv
  · exact he
  · refine ⟨Memory.pairwise_insertCell _ _ _ he.1 (Memory.erase_free _ _), fun x hx => ?_⟩
    rcases (Memory.mem_insertCell _ _ _ _).1 hx with rfl | hx
    · exact ⟨a.isLt, hv⟩
    · exact he.2 x hx

theorem State.wf_storeBytes {s : State} (h : Memory.wf s.mem) (a : Word) (vs : List Byte) :
    Memory.wf (s.storeBytes a vs).mem := by
  induction vs generalizing s a with
  | nil => exact h
  | cons v vs ih => exact ih (Memory.wf_write h a v) (a + 1)

/-- Canonical memories that read alike are equal data. -/
theorem Memory.ext_of_read {m n : Memory} (hm : Memory.wf m) (hn : Memory.wf n)
    (h : ∀ a, Memory.byteAt m a = Memory.byteAt n a) : m = n := by
  have low : ∀ (k : Nat) (l : Memory), (∀ x ∈ l, k < x.1) → Memory.byteAt l k = unlistedByte := by
    intro k l hl
    induction l with
    | nil => rfl
    | cons x l ih =>
      have := hl x (by simp)
      rw [Memory.byteAt_cons, if_neg (by omega), ih fun y hy => hl y (by simp [hy])]
  induction m generalizing n with
  | nil =>
    cases n with
    | nil => rfl
    | cons y n =>
      have := h y.1
      rw [Memory.byteAt_nil, Memory.byteAt_cons, if_pos rfl] at this
      exact absurd this.symm (hn.2 y (by simp)).2
  | cons x m ih =>
    obtain ⟨hx, hm1⟩ := List.pairwise_cons.1 hm.1
    cases n with
    | nil =>
      have := h x.1
      rw [Memory.byteAt_nil, Memory.byteAt_cons, if_pos rfl] at this
      exact absurd this (hm.2 x (by simp)).2
    | cons y n =>
      obtain ⟨hy, hn1⟩ := List.pairwise_cons.1 hn.1
      have key : x.1 = y.1 := by
        rcases Nat.lt_trichotomy x.1 y.1 with hlt | heq | hlt
        · have := h x.1
          rw [Memory.byteAt_cons, if_pos rfl, Memory.byteAt_cons, if_neg (by omega),
            low x.1 n fun z hz => Nat.lt_trans hlt (hy z hz)] at this
          exact absurd this (hm.2 x (by simp)).2
        · exact heq
        · have := h y.1
          rw [Memory.byteAt_cons, if_neg (by omega), Memory.byteAt_cons, if_pos rfl,
            low y.1 m fun z hz => Nat.lt_trans hlt (hx z hz)] at this
          exact absurd this.symm (hn.2 y (by simp)).2
      have val : x.2 = y.2 := by
        have := h x.1
        rwa [Memory.byteAt_cons, if_pos rfl, Memory.byteAt_cons, if_pos key.symm] at this
      have hxy : x = y := Prod.ext key val
      subst hxy
      congr 1
      refine ih ⟨hm1, fun z hz => hm.2 z (by simp [hz])⟩ ⟨hn1, fun z hz => hn.2 z (by simp [hz])⟩ fun a => ?_
      by_cases ha : x.1 = a
      · subst ha; rw [low x.1 m hx, low x.1 n hy]
      · have := h a
        rwa [Memory.byteAt_cons, if_neg ha, Memory.byteAt_cons, if_neg ha] at this

end Sys2Proof.Machine
end

