-- ==== Sys2Proof/Laws/Execute.lean ====
section
/-! SUPPORT. What a step can do, said once: every instruction is the shared operation of its kind (`exec_eq_runKind`), so a
fact about all instructions is a case analysis over `Kind`, not over the arms of `exec`. -/

namespace Sys2Proof.Machine

/-- The operation of a kind. -/
def runKind (k : Kind) (s : State) : State :=
  match k with
  | .nop => nop s
  | .ldPairImm p => ldPairImm p s
  | .inc p => incPair p s
  | .inc8 x => inc8 x s
  | .dec8 x => dec8 x s
  | .ldRegImm r => ldRegImm r s
  | .ldMemHlImm => ldMemHlImm s
  | .rlca => rotA .rlc s
  | .rrca => rotA .rrc s
  | .rla => rotA .rl s
  | .rra => rotA .rr s
  | .daa => daa s
  | .cpl => cpl s
  | .scf => scf s
  | .ccf => ccf s
  | .ldMemNnSp => ldMemNnSp s
  | .addHl p => addHl p s
  | .dec16 p => decPair p s
  | .ldAMemBc => ldAMemPair .bc s
  | .ldAMemDe => ldAMemPair .de s
  | .ldMemDeA => ldMemPairA .de s
  | .ldMemHliA => ldMemHliA s
  | .ldAMemHli => ldAMemHli s
  | .ldMemHldA => ldMemHldA s
  | .ldAMemHld => ldAMemHld s
  | .ldRegReg rd rs => ldRegReg rd rs s
  | .ldRegMemHl r => ldRegMemHl r s
  | .ldMemHlReg r => ldMemHlReg r s
  | .alu .add (.reg r) => addReg r s
  | .alu op x => alu op x s
  | .jp cc => jp cc s
  | .jpHl => jpHl s
  | .jr cc => jr cc s
  | .call cc => call cc s
  | .ret cc => ret cc s
  | .rst t => rst t s
  | .push p => push p s
  | .pop p => pop p s
  | .ldhMemNA => ldhMemNA s
  | .ldhAMemN => ldhAMemN s
  | .ldMemCA => ldMemCA s
  | .ldAMemC => ldAMemC s
  | .ldMemNnA => ldMemNnA s
  | .ldAMemNn => ldAMemNn s
  | .addSpDisp => addSpDisp s
  | .ldHlSpDisp => ldHlSpDisp s
  | .ldSpHl => ldSpHl s
  | .cb op x => runCb op x s
  | .marker op2 =>
    if s.cfg.table.assigns op2 true then runCb (cbOpOf op2) (locOf (fieldZ op2)) s else raiseIllegal op2 true s
  | .unknown op => raiseIllegal op false s

/-- Execution is the operation of the kind, and it always answers a next state. -/
theorem exec_eq_runKind (i : Instr) (s : State) : exec i s = .next (runKind i.kind s) := by
  cases i
  case prefixCB op2 =>
    show execPrefixCB op2 s = .next (if s.cfg.table.assigns op2 true then _ else _)
    unfold execPrefixCB
    split <;> rfl
  all_goals rfl

/-- The inversion of a step: the core was halted and stays as it is, or it ran its instruction's operation. -/
theorem step_cases (s : State) :
    (∃ r, s.halted = some r ∧ step s = .next s) ∨
    (s.halted = none ∧ step s = .next (runKind (fetchInstr s).kind s)) := by
  unfold step
  cases h : s.halted with
  | some r => exact .inl ⟨r, rfl, rfl⟩
  | none => exact .inr ⟨rfl, exec_eq_runKind _ _⟩

theorem step_of_running {s : State} (h : s.halted = none) : step s = .next (runKind (fetchInstr s).kind s) := by
  unfold step; rw [h]; exact exec_eq_runKind _ _

theorem step_of_halted {s : State} {r : HaltRecord} (h : s.halted = some r) : step s = .next s := by
  unfold step; rw [h]

/-- The operand of a two-byte immediate, as R86 writes it. -/
theorem imm16_eq (s : State) : s.imm16 = join (s.load8 (s.pc + 2)) (s.load8 (s.pc + 1)) := by
  have h : s.pc + 1 + 1 = s.pc + 2 := by rw [BitVec.add_assoc]; rfl
  unfold State.imm16 State.load16
  rw [h]

/-- The prefixed operation a second byte names by its structure (R90, R94) is the kind of its cell of the grid. -/
theorem kind_markedCell (op2 : Byte) : (gridCell op2 true).kind = .cb (cbOpOf op2) (locOf (fieldZ op2)) := by
  revert op2; decide +kernel

end Sys2Proof.Machine
end

