-- ==== Sys2Proof/Laws/Ops.lean ====
section
/-! SUPPORT. One law per shared operation: the spec's arithmetic on numbers against the operations on bytes, byte access
against byte access, the stack, and what the operand writes and the prefixed operations leave alone. -/

namespace Sys2Proof.Machine

/-! ## Numbers and bytes -/

theorem hi8_eq_ofNat (v : Word) : hi8 v = BitVec.ofNat 8 (v.toNat / 256) := by
  apply BitVec.eq_of_toNat_eq
  rw [toNat_hi8, BitVec.toNat_ofNat]
  omega

theorem lo8_eq_ofNat (v : Word) : lo8 v = BitVec.ofNat 8 v.toNat := by
  apply BitVec.eq_of_toNat_eq
  rw [toNat_lo8, BitVec.toNat_ofNat]

theorem pageAddr_eq_ofNat (n : Byte) : pageAddr n = BitVec.ofNat 16 (0xFF00 + n.toNat) := by
  revert n; decide +kernel

/-- A byte is the truncation of every number it is congruent to. -/
theorem ofNat_eq_of_toNat {a : Byte} {n : Nat} (h : a.toNat = n % 256) : BitVec.ofNat 8 n = a := by
  apply BitVec.eq_of_toNat_eq
  rw [BitVec.toNat_ofNat, h]

/-- The zero test on a number is the zero test on its byte. -/
theorem decide_eq_beq_zero {a : Byte} {n : Nat} (h : a.toNat = n % 256) : decide (n % 256 = 0) = (a == 0) := by
  rw [Bool.eq_iff_iff]
  simp only [decide_eq_true_eq, beq_iff_eq]
  rw [← h, ← BitVec.toNat_inj]
  rfl

theorem toNat_addByte (a v : Byte) (c : Bool) : (addByte a v c).toNat = addSum a v c % 256 := by
  rw [addByte, BitVec.toNat_ofNat]

/-- Subtraction with borrow on integers (R203, R204). -/
theorem subByte_eq_ofInt (a v : Byte) (c : Bool) :
    subByte a v c = BitVec.ofInt 8 ((a.toNat : Int) - v.toNat - c.toNat) := by
  have h : ((c.toNat : Nat) : Int) = ((bitByte c).toNat : Int) := by cases c <;> rfl
  rw [h]
  apply BitVec.eq_of_toNat_eq
  simp only [subByte, BitVec.toNat_sub, BitVec.toNat_ofInt]
  have := a.isLt
  have := v.isLt
  have := (bitByte c).isLt
  omega

/-! ## Memory -/

/-- A byte read after a byte write (R52, R53). -/
theorem State.load8_store8 (s : State) (a b : Word) (v : Byte) :
    (s.store8 a v).load8 b = if a = b then v else s.load8 b := Memory.read_write s.mem a b v

/-- A byte read after a word write (R55). -/
theorem State.load8_store16 (s : State) (a v b : Word) :
    (s.store16 a v).load8 b = if a + 1 = b then hi8 v else if a = b then lo8 v else s.load8 b := by
  unfold State.store16
  rw [State.load8_store8, State.load8_store8]

/-- Two states with one memory read alike. -/
theorem State.load8_congr {s t : State} (h : s.mem = t.mem) (a : Word) : s.load8 a = t.load8 a := by
  unfold State.load8
  rw [h]

/-! ## The stack -/

/-- What is pushed is on top of the stack (R184, R185). -/
theorem State.top16_push16 (s : State) (v : Word) : (s.push16 v).top16 = v := by
  have h1 : s.sp - 2 + 1 = s.sp - 1 := by bv_omega
  have h2 : s.sp - 2 ≠ s.sp - 1 := by bv_omega
  unfold State.top16 State.load16 State.load8
  rw [State.push16_mem, State.push16_sp, h1, Memory.read_write_same, Memory.read_write_other _ _ h2,
    Memory.read_write_same, join_hi8_lo8]

/-- Dropping what was pushed restores `sp`. -/
theorem State.drop16_push16_sp (s : State) (v : Word) : (s.push16 v).drop16.sp = s.sp := by
  show s.sp - 2 + 2 = s.sp
  bv_omega

/-! ## Pairs and operands -/

theorem State.setPair_pair (s : State) (rr : Reg16) : s.setPair rr (s.pair rr) = s := by
  cases rr <;> simp [State.setPair, State.pair, State.readF]

theorem State.pair_setPair (s : State) (p : Rp) (v : Word) : (s.setPair p.toReg16 v).pair p.toReg16 = v := by
  cases p <;> simp [State.setPair, State.pair, Rp.toReg16]

theorem State.setPair_setPair (s : State) (rr : Reg16) (v w : Word) : (s.setPair rr v).setPair rr w = s.setPair rr w := by
  cases rr <;> rfl

/-- The memory after an operand write is the memory with the write the access list names (R67). -/
theorem State.setLoc8_mem (s : State) (x : Loc8) (v : Byte) :
    (s.setLoc8 x v).mem = (locWrites x v s).foldl applyAccess s.mem := by
  cases x <;> simp [State.setLoc8, locWrites, applyAccess]

/-! ## Prefixed operations -/

/-- What a prefixed operation leaves alone: `sp`, the latch and the configuration, in both profiles (R260). -/
theorem runCb_frame (op : CbOp) (x : Loc8) (s : State) :
    (runCb op x s).sp = s.sp ∧ (runCb op x s).halted = s.halted ∧ (runCb op x s).cfg = s.cfg := by
  rcases op with o | b | b | b
  · rcases x with r | _
    · cases o <;> simp only [runCb, rlcReg, rotate] <;> (try split) <;> simp
    · cases o <;> simp [runCb, rotate]
  all_goals simp [runCb, bitTest, bitRes, bitSet]

/-- The memory after a prefixed operation is the memory with the writes of its accesses (R67). -/
theorem runCb_mem (op : CbOp) (x : Loc8) (s : State) :
    (runCb op x s).mem = (cbAccesses op x s).foldl applyAccess s.mem := by
  rcases op with o | b | b | b <;> rcases x with r | _
  · cases o <;> simp only [runCb, rlcReg, rotate] <;> (try split) <;>
      simp [cbAccesses, locReads, locWrites, State.setLoc8]
  · cases o <;> simp [runCb, rotate, cbAccesses, locReads, locWrites, State.setLoc8, applyAccess]
  all_goals simp [runCb, bitTest, bitRes, bitSet, cbAccesses, locReads, locWrites, State.setLoc8, applyAccess]

/-! ## Execution by kind -/

/-- An instruction of a kind runs that kind's operation. -/
theorem exec_of_kind {i : Instr} {k : Kind} (h : i.kind = k) (s : State) : exec i s = .next (runKind k s) := by
  rw [exec_eq_runKind, h]

/-- Writes outside an address leave the byte there alone. -/
theorem read_foldl_applyAccess (l : List Access) (m : Memory) (a : Word) (h : a ∉ writtenBy l) :
    Memory.read (l.foldl applyAccess m) a = Memory.read m a := by
  induction l generalizing m with
  | nil => rfl
  | cons x l ih =>
    cases x with
    | read b => exact ih m (by simpa [writtenBy] using h)
    | write b v =>
      have h2 : a ≠ b ∧ a ∉ writtenBy l := by simpa [writtenBy] using h
      rw [List.foldl_cons, ih _ h2.2]
      exact Memory.read_write_other _ _ h2.1.symm

/-- The last write to an address is what is read there. -/
theorem read_foldl_applyAccess_last (before after : List Access) (m : Memory) (a : Word) (v : Byte)
    (h : a ∉ writtenBy after) :
    Memory.read ((before ++ .write a v :: after).foldl applyAccess m) a = v := by
  rw [List.foldl_append, List.foldl_cons, read_foldl_applyAccess after _ a h]
  exact Memory.read_write_same _ _ _

/-- Accesses keep memory canonical. -/
theorem wf_foldl_applyAccess (l : List Access) {m : Memory} (h : Memory.wf m) : Memory.wf (l.foldl applyAccess m) := by
  induction l generalizing m with
  | nil => exact h
  | cons x l ih =>
    cases x with
    | read b => exact ih h
    | write b v => exact ih (Memory.wf_write h b v)

end Sys2Proof.Machine
end

