-- ==== Sys2Proof/Laws/PerInstr.lean ====
section
/-! SUPPORT. A law of every instruction, one lemma per constructor: its encoding has the shape of a format of
spec/30_encoding.md R80. -/

namespace Sys2Proof.Laws.EncodeShape

/-- One opcode byte that is not the marker, or the marker and one byte (R80, R87). -/
def Statement (i : Instr) : Prop :=
  WellFormed .tFull i → (∃ op, op ≠ 0xCB ∧ encode i = [op]) ∨ ∃ op, encode i = [0xCB, op]

/-- The law for every instruction; each lemma below is one case of it. -/
theorem every (i : Instr) : Statement i := by
  cases i
  case unknown op =>
    intro h
    have h1 : (op != 0xCB) = true := (Bool.and_eq_true_iff.1 h).1
    exact .inl ⟨op, by simpa using h1, rfl⟩
  case prefixCB op2 => exact fun _ => .inr ⟨op2, rfl⟩
  all_goals first
    | exact fun _ => .inr ⟨_, rfl⟩
    | exact fun _ => .inl ⟨_, by decide, rfl⟩

theorem nop : Statement (.nop) := every _
theorem ldBcNn : Statement (.ldBcNn) := every _
theorem incBc : Statement (.incBc) := every _
theorem incB : Statement (.incB) := every _
theorem decB : Statement (.decB) := every _
theorem ldBN : Statement (.ldBN) := every _
theorem rlca : Statement (.rlca) := every _
theorem ldMemNnSp : Statement (.ldMemNnSp) := every _
theorem addHlBc : Statement (.addHlBc) := every _
theorem ldAMemBc : Statement (.ldAMemBc) := every _
theorem decBc : Statement (.decBc) := every _
theorem incC : Statement (.incC) := every _
theorem decC : Statement (.decC) := every _
theorem ldCN : Statement (.ldCN) := every _
theorem rrca : Statement (.rrca) := every _
theorem unknown (op : Byte) : Statement (.unknown op) := every _
theorem ldDeNn : Statement (.ldDeNn) := every _
theorem ldMemDeA : Statement (.ldMemDeA) := every _
theorem incDe : Statement (.incDe) := every _
theorem incD : Statement (.incD) := every _
theorem decD : Statement (.decD) := every _
theorem ldDN : Statement (.ldDN) := every _
theorem rla : Statement (.rla) := every _
theorem jrDisp : Statement (.jrDisp) := every _
theorem addHlDe : Statement (.addHlDe) := every _
theorem ldAMemDe : Statement (.ldAMemDe) := every _
theorem decDe : Statement (.decDe) := every _
theorem incE : Statement (.incE) := every _
theorem decE : Statement (.decE) := every _
theorem ldEN : Statement (.ldEN) := every _
theorem rra : Statement (.rra) := every _
theorem jrNzDisp : Statement (.jrNzDisp) := every _
theorem ldHlNn : Statement (.ldHlNn) := every _
theorem ldMemHliA : Statement (.ldMemHliA) := every _
theorem incHl : Statement (.incHl) := every _
theorem incH : Statement (.incH) := every _
theorem decH : Statement (.decH) := every _
theorem ldHN : Statement (.ldHN) := every _
theorem daa : Statement (.daa) := every _
theorem jrZDisp : Statement (.jrZDisp) := every _
theorem addHlHl : Statement (.addHlHl) := every _
theorem ldAMemHli : Statement (.ldAMemHli) := every _
theorem decHl : Statement (.decHl) := every _
theorem incL : Statement (.incL) := every _
theorem decL : Statement (.decL) := every _
theorem ldLN : Statement (.ldLN) := every _
theorem cpl : Statement (.cpl) := every _
theorem jrNcDisp : Statement (.jrNcDisp) := every _
theorem ldSpNn : Statement (.ldSpNn) := every _
theorem ldMemHldA : Statement (.ldMemHldA) := every _
theorem incSp : Statement (.incSp) := every _
theorem incMemHl : Statement (.incMemHl) := every _
theorem decMemHl : Statement (.decMemHl) := every _
theorem ldMemHlN : Statement (.ldMemHlN) := every _
theorem scf : Statement (.scf) := every _
theorem jrCDisp : Statement (.jrCDisp) := every _
theorem addHlSp : Statement (.addHlSp) := every _
theorem ldAMemHld : Statement (.ldAMemHld) := every _
theorem decSp : Statement (.decSp) := every _
theorem incA : Statement (.incA) := every _
theorem decA : Statement (.decA) := every _
theorem ldAN : Statement (.ldAN) := every _
theorem ccf : Statement (.ccf) := every _
theorem ldBB : Statement (.ldBB) := every _
theorem ldBC : Statement (.ldBC) := every _
theorem ldBD : Statement (.ldBD) := every _
theorem ldBE : Statement (.ldBE) := every _
theorem ldBH : Statement (.ldBH) := every _
theorem ldBL : Statement (.ldBL) := every _
theorem ldBMemHl : Statement (.ldBMemHl) := every _
theorem ldBA : Statement (.ldBA) := every _
theorem ldCB : Statement (.ldCB) := every _
theorem ldCC : Statement (.ldCC) := every _
theorem ldCD : Statement (.ldCD) := every _
theorem ldCE : Statement (.ldCE) := every _
theorem ldCH : Statement (.ldCH) := every _
theorem ldCL : Statement (.ldCL) := every _
theorem ldCMemHl : Statement (.ldCMemHl) := every _
theorem ldCA : Statement (.ldCA) := every _
theorem ldDB : Statement (.ldDB) := every _
theorem ldDC : Statement (.ldDC) := every _
theorem ldDD : Statement (.ldDD) := every _
theorem ldDE : Statement (.ldDE) := every _
theorem ldDH : Statement (.ldDH) := every _
theorem ldDL : Statement (.ldDL) := every _
theorem ldDMemHl : Statement (.ldDMemHl) := every _
theorem ldDA : Statement (.ldDA) := every _
theorem ldEB : Statement (.ldEB) := every _
theorem ldEC : Statement (.ldEC) := every _
theorem ldED : Statement (.ldED) := every _
theorem ldEE : Statement (.ldEE) := every _
theorem ldEH : Statement (.ldEH) := every _
theorem ldEL : Statement (.ldEL) := every _
theorem ldEMemHl : Statement (.ldEMemHl) := every _
theorem ldEA : Statement (.ldEA) := every _
theorem ldHB : Statement (.ldHB) := every _
theorem ldHC : Statement (.ldHC) := every _
theorem ldHD : Statement (.ldHD) := every _
theorem ldHE : Statement (.ldHE) := every _
theorem ldHH : Statement (.ldHH) := every _
theorem ldHL : Statement (.ldHL) := every _
theorem ldHMemHl : Statement (.ldHMemHl) := every _
theorem ldHA : Statement (.ldHA) := every _
theorem ldLB : Statement (.ldLB) := every _
theorem ldLC : Statement (.ldLC) := every _
theorem ldLD : Statement (.ldLD) := every _
theorem ldLE : Statement (.ldLE) := every _
theorem ldLH : Statement (.ldLH) := every _
theorem ldLL : Statement (.ldLL) := every _
theorem ldLMemHl : Statement (.ldLMemHl) := every _
theorem ldLA : Statement (.ldLA) := every _
theorem ldMemHlB : Statement (.ldMemHlB) := every _
theorem ldMemHlC : Statement (.ldMemHlC) := every _
theorem ldMemHlD : Statement (.ldMemHlD) := every _
theorem ldMemHlE : Statement (.ldMemHlE) := every _
theorem ldMemHlH : Statement (.ldMemHlH) := every _
theorem ldMemHlL : Statement (.ldMemHlL) := every _
theorem ldMemHlA : Statement (.ldMemHlA) := every _
theorem ldAB : Statement (.ldAB) := every _
theorem ldAC : Statement (.ldAC) := every _
theorem ldAD : Statement (.ldAD) := every _
theorem ldAE : Statement (.ldAE) := every _
theorem ldAH : Statement (.ldAH) := every _
theorem ldAL : Statement (.ldAL) := every _
theorem ldAMemHl : Statement (.ldAMemHl) := every _
theorem ldAA : Statement (.ldAA) := every _
theorem addAB : Statement (.addAB) := every _
theorem addAC : Statement (.addAC) := every _
theorem addAD : Statement (.addAD) := every _
theorem addAE : Statement (.addAE) := every _
theorem addAH : Statement (.addAH) := every _
theorem addAL : Statement (.addAL) := every _
theorem addAMemHl : Statement (.addAMemHl) := every _
theorem addAA : Statement (.addAA) := every _
theorem adcAB : Statement (.adcAB) := every _
theorem adcAC : Statement (.adcAC) := every _
theorem adcAD : Statement (.adcAD) := every _
theorem adcAE : Statement (.adcAE) := every _
theorem adcAH : Statement (.adcAH) := every _
theorem adcAL : Statement (.adcAL) := every _
theorem adcAMemHl : Statement (.adcAMemHl) := every _
theorem adcAA : Statement (.adcAA) := every _
theorem subAB : Statement (.subAB) := every _
theorem subAC : Statement (.subAC) := every _
theorem subAD : Statement (.subAD) := every _
theorem subAE : Statement (.subAE) := every _
theorem subAH : Statement (.subAH) := every _
theorem subAL : Statement (.subAL) := every _
theorem subAMemHl : Statement (.subAMemHl) := every _
theorem subAA : Statement (.subAA) := every _
theorem sbcAB : Statement (.sbcAB) := every _
theorem sbcAC : Statement (.sbcAC) := every _
theorem sbcAD : Statement (.sbcAD) := every _
theorem sbcAE : Statement (.sbcAE) := every _
theorem sbcAH : Statement (.sbcAH) := every _
theorem sbcAL : Statement (.sbcAL) := every _
theorem sbcAMemHl : Statement (.sbcAMemHl) := every _
theorem sbcAA : Statement (.sbcAA) := every _
theorem andAB : Statement (.andAB) := every _
theorem andAC : Statement (.andAC) := every _
theorem andAD : Statement (.andAD) := every _
theorem andAE : Statement (.andAE) := every _
theorem andAH : Statement (.andAH) := every _
theorem andAL : Statement (.andAL) := every _
theorem andAMemHl : Statement (.andAMemHl) := every _
theorem andAA : Statement (.andAA) := every _
theorem xorAB : Statement (.xorAB) := every _
theorem xorAC : Statement (.xorAC) := every _
theorem xorAD : Statement (.xorAD) := every _
theorem xorAE : Statement (.xorAE) := every _
theorem xorAH : Statement (.xorAH) := every _
theorem xorAL : Statement (.xorAL) := every _
theorem xorAMemHl : Statement (.xorAMemHl) := every _
theorem xorAA : Statement (.xorAA) := every _
theorem orAB : Statement (.orAB) := every _
theorem orAC : Statement (.orAC) := every _
theorem orAD : Statement (.orAD) := every _
theorem orAE : Statement (.orAE) := every _
theorem orAH : Statement (.orAH) := every _
theorem orAL : Statement (.orAL) := every _
theorem orAMemHl : Statement (.orAMemHl) := every _
theorem orAA : Statement (.orAA) := every _
theorem cpAB : Statement (.cpAB) := every _
theorem cpAC : Statement (.cpAC) := every _
theorem cpAD : Statement (.cpAD) := every _
theorem cpAE : Statement (.cpAE) := every _
theorem cpAH : Statement (.cpAH) := every _
theorem cpAL : Statement (.cpAL) := every _
theorem cpAMemHl : Statement (.cpAMemHl) := every _
theorem cpAA : Statement (.cpAA) := every _
theorem retNz : Statement (.retNz) := every _
theorem popBc : Statement (.popBc) := every _
theorem jpNzNn : Statement (.jpNzNn) := every _
theorem jpNn : Statement (.jpNn) := every _
theorem callNzNn : Statement (.callNzNn) := every _
theorem pushBc : Statement (.pushBc) := every _
theorem addAN : Statement (.addAN) := every _
theorem rst00H : Statement (.rst00H) := every _
theorem retZ : Statement (.retZ) := every _
theorem ret : Statement (.ret) := every _
theorem jpZNn : Statement (.jpZNn) := every _
theorem prefixCB (op2 : Byte) : Statement (.prefixCB op2) := every _
theorem callZNn : Statement (.callZNn) := every _
theorem callNn : Statement (.callNn) := every _
theorem adcAN : Statement (.adcAN) := every _
theorem rst08H : Statement (.rst08H) := every _
theorem retNc : Statement (.retNc) := every _
theorem popDe : Statement (.popDe) := every _
theorem jpNcNn : Statement (.jpNcNn) := every _
theorem callNcNn : Statement (.callNcNn) := every _
theorem pushDe : Statement (.pushDe) := every _
theorem subAN : Statement (.subAN) := every _
theorem rst10H : Statement (.rst10H) := every _
theorem retC : Statement (.retC) := every _
theorem jpCNn : Statement (.jpCNn) := every _
theorem callCNn : Statement (.callCNn) := every _
theorem sbcAN : Statement (.sbcAN) := every _
theorem rst18H : Statement (.rst18H) := every _
theorem ldhMemNA : Statement (.ldhMemNA) := every _
theorem popHl : Statement (.popHl) := every _
theorem ldMemCA : Statement (.ldMemCA) := every _
theorem pushHl : Statement (.pushHl) := every _
theorem andAN : Statement (.andAN) := every _
theorem rst20H : Statement (.rst20H) := every _
theorem addSpDisp : Statement (.addSpDisp) := every _
theorem jpHl : Statement (.jpHl) := every _
theorem ldMemNnA : Statement (.ldMemNnA) := every _
theorem xorAN : Statement (.xorAN) := every _
theorem rst28H : Statement (.rst28H) := every _
theorem ldhAMemN : Statement (.ldhAMemN) := every _
theorem popAf : Statement (.popAf) := every _
theorem ldAMemC : Statement (.ldAMemC) := every _
theorem pushAf : Statement (.pushAf) := every _
theorem orAN : Statement (.orAN) := every _
theorem rst30H : Statement (.rst30H) := every _
theorem ldHlSpDisp : Statement (.ldHlSpDisp) := every _
theorem ldSpHl : Statement (.ldSpHl) := every _
theorem ldAMemNn : Statement (.ldAMemNn) := every _
theorem cpAN : Statement (.cpAN) := every _
theorem rlcB : Statement (.rlcB) := every _
theorem rlcC : Statement (.rlcC) := every _
theorem rlcD : Statement (.rlcD) := every _
theorem rlcE : Statement (.rlcE) := every _
theorem rlcH : Statement (.rlcH) := every _
theorem rlcL : Statement (.rlcL) := every _
theorem rlcMemHl : Statement (.rlcMemHl) := every _
theorem rlcA : Statement (.rlcA) := every _
theorem rrcB : Statement (.rrcB) := every _
theorem rrcC : Statement (.rrcC) := every _
theorem rrcD : Statement (.rrcD) := every _
theorem rrcE : Statement (.rrcE) := every _
theorem rrcH : Statement (.rrcH) := every _
theorem rrcL : Statement (.rrcL) := every _
theorem rrcMemHl : Statement (.rrcMemHl) := every _
theorem rrcA : Statement (.rrcA) := every _
theorem rlB : Statement (.rlB) := every _
theorem rlC : Statement (.rlC) := every _
theorem rlD : Statement (.rlD) := every _
theorem rlE : Statement (.rlE) := every _
theorem rlH : Statement (.rlH) := every _
theorem rlL : Statement (.rlL) := every _
theorem rlMemHl : Statement (.rlMemHl) := every _
theorem rlA : Statement (.rlA) := every _
theorem rrB : Statement (.rrB) := every _
theorem rrC : Statement (.rrC) := every _
theorem rrD : Statement (.rrD) := every _
theorem rrE : Statement (.rrE) := every _
theorem rrH : Statement (.rrH) := every _
theorem rrL : Statement (.rrL) := every _
theorem rrMemHl : Statement (.rrMemHl) := every _
theorem rrA : Statement (.rrA) := every _
theorem slaB : Statement (.slaB) := every _
theorem slaC : Statement (.slaC) := every _
theorem slaD : Statement (.slaD) := every _
theorem slaE : Statement (.slaE) := every _
theorem slaH : Statement (.slaH) := every _
theorem slaL : Statement (.slaL) := every _
theorem slaMemHl : Statement (.slaMemHl) := every _
theorem slaA : Statement (.slaA) := every _
theorem sraB : Statement (.sraB) := every _
theorem sraC : Statement (.sraC) := every _
theorem sraD : Statement (.sraD) := every _
theorem sraE : Statement (.sraE) := every _
theorem sraH : Statement (.sraH) := every _
theorem sraL : Statement (.sraL) := every _
theorem sraMemHl : Statement (.sraMemHl) := every _
theorem sraA : Statement (.sraA) := every _
theorem swapB : Statement (.swapB) := every _
theorem swapC : Statement (.swapC) := every _
theorem swapD : Statement (.swapD) := every _
theorem swapE : Statement (.swapE) := every _
theorem swapH : Statement (.swapH) := every _
theorem swapL : Statement (.swapL) := every _
theorem swapMemHl : Statement (.swapMemHl) := every _
theorem swapA : Statement (.swapA) := every _
theorem srlB : Statement (.srlB) := every _
theorem srlC : Statement (.srlC) := every _
theorem srlD : Statement (.srlD) := every _
theorem srlE : Statement (.srlE) := every _
theorem srlH : Statement (.srlH) := every _
theorem srlL : Statement (.srlL) := every _
theorem srlMemHl : Statement (.srlMemHl) := every _
theorem srlA : Statement (.srlA) := every _
theorem bit0B : Statement (.bit0B) := every _
theorem bit0C : Statement (.bit0C) := every _
theorem bit0D : Statement (.bit0D) := every _
theorem bit0E : Statement (.bit0E) := every _
theorem bit0H : Statement (.bit0H) := every _
theorem bit0L : Statement (.bit0L) := every _
theorem bit0MemHl : Statement (.bit0MemHl) := every _
theorem bit0A : Statement (.bit0A) := every _
theorem bit1B : Statement (.bit1B) := every _
theorem bit1C : Statement (.bit1C) := every _
theorem bit1D : Statement (.bit1D) := every _
theorem bit1E : Statement (.bit1E) := every _
theorem bit1H : Statement (.bit1H) := every _
theorem bit1L : Statement (.bit1L) := every _
theorem bit1MemHl : Statement (.bit1MemHl) := every _
theorem bit1A : Statement (.bit1A) := every _
theorem bit2B : Statement (.bit2B) := every _
theorem bit2C : Statement (.bit2C) := every _
theorem bit2D : Statement (.bit2D) := every _
theorem bit2E : Statement (.bit2E) := every _
theorem bit2H : Statement (.bit2H) := every _
theorem bit2L : Statement (.bit2L) := every _
theorem bit2MemHl : Statement (.bit2MemHl) := every _
theorem bit2A : Statement (.bit2A) := every _
theorem bit3B : Statement (.bit3B) := every _
theorem bit3C : Statement (.bit3C) := every _
theorem bit3D : Statement (.bit3D) := every _
theorem bit3E : Statement (.bit3E) := every _
theorem bit3H : Statement (.bit3H) := every _
theorem bit3L : Statement (.bit3L) := every _
theorem bit3MemHl : Statement (.bit3MemHl) := every _
theorem bit3A : Statement (.bit3A) := every _
theorem bit4B : Statement (.bit4B) := every _
theorem bit4C : Statement (.bit4C) := every _
theorem bit4D : Statement (.bit4D) := every _
theorem bit4E : Statement (.bit4E) := every _
theorem bit4H : Statement (.bit4H) := every _
theorem bit4L : Statement (.bit4L) := every _
theorem bit4MemHl : Statement (.bit4MemHl) := every _
theorem bit4A : Statement (.bit4A) := every _
theorem bit5B : Statement (.bit5B) := every _
theorem bit5C : Statement (.bit5C) := every _
theorem bit5D : Statement (.bit5D) := every _
theorem bit5E : Statement (.bit5E) := every _
theorem bit5H : Statement (.bit5H) := every _
theorem bit5L : Statement (.bit5L) := every _
theorem bit5MemHl : Statement (.bit5MemHl) := every _
theorem bit5A : Statement (.bit5A) := every _
theorem bit6B : Statement (.bit6B) := every _
theorem bit6C : Statement (.bit6C) := every _
theorem bit6D : Statement (.bit6D) := every _
theorem bit6E : Statement (.bit6E) := every _
theorem bit6H : Statement (.bit6H) := every _
theorem bit6L : Statement (.bit6L) := every _
theorem bit6MemHl : Statement (.bit6MemHl) := every _
theorem bit6A : Statement (.bit6A) := every _
theorem bit7B : Statement (.bit7B) := every _
theorem bit7C : Statement (.bit7C) := every _
theorem bit7D : Statement (.bit7D) := every _
theorem bit7E : Statement (.bit7E) := every _
theorem bit7H : Statement (.bit7H) := every _
theorem bit7L : Statement (.bit7L) := every _
theorem bit7MemHl : Statement (.bit7MemHl) := every _
theorem bit7A : Statement (.bit7A) := every _
theorem res0B : Statement (.res0B) := every _
theorem res0C : Statement (.res0C) := every _
theorem res0D : Statement (.res0D) := every _
theorem res0E : Statement (.res0E) := every _
theorem res0H : Statement (.res0H) := every _
theorem res0L : Statement (.res0L) := every _
theorem res0MemHl : Statement (.res0MemHl) := every _
theorem res0A : Statement (.res0A) := every _
theorem res1B : Statement (.res1B) := every _
theorem res1C : Statement (.res1C) := every _
theorem res1D : Statement (.res1D) := every _
theorem res1E : Statement (.res1E) := every _
theorem res1H : Statement (.res1H) := every _
theorem res1L : Statement (.res1L) := every _
theorem res1MemHl : Statement (.res1MemHl) := every _
theorem res1A : Statement (.res1A) := every _
theorem res2B : Statement (.res2B) := every _
theorem res2C : Statement (.res2C) := every _
theorem res2D : Statement (.res2D) := every _
theorem res2E : Statement (.res2E) := every _
theorem res2H : Statement (.res2H) := every _
theorem res2L : Statement (.res2L) := every _
theorem res2MemHl : Statement (.res2MemHl) := every _
theorem res2A : Statement (.res2A) := every _
theorem res3B : Statement (.res3B) := every _
theorem res3C : Statement (.res3C) := every _
theorem res3D : Statement (.res3D) := every _
theorem res3E : Statement (.res3E) := every _
theorem res3H : Statement (.res3H) := every _
theorem res3L : Statement (.res3L) := every _
theorem res3MemHl : Statement (.res3MemHl) := every _
theorem res3A : Statement (.res3A) := every _
theorem res4B : Statement (.res4B) := every _
theorem res4C : Statement (.res4C) := every _
theorem res4D : Statement (.res4D) := every _
theorem res4E : Statement (.res4E) := every _
theorem res4H : Statement (.res4H) := every _
theorem res4L : Statement (.res4L) := every _
theorem res4MemHl : Statement (.res4MemHl) := every _
theorem res4A : Statement (.res4A) := every _
theorem res5B : Statement (.res5B) := every _
theorem res5C : Statement (.res5C) := every _
theorem res5D : Statement (.res5D) := every _
theorem res5E : Statement (.res5E) := every _
theorem res5H : Statement (.res5H) := every _
theorem res5L : Statement (.res5L) := every _
theorem res5MemHl : Statement (.res5MemHl) := every _
theorem res5A : Statement (.res5A) := every _
theorem res6B : Statement (.res6B) := every _
theorem res6C : Statement (.res6C) := every _
theorem res6D : Statement (.res6D) := every _
theorem res6E : Statement (.res6E) := every _
theorem res6H : Statement (.res6H) := every _
theorem res6L : Statement (.res6L) := every _
theorem res6MemHl : Statement (.res6MemHl) := every _
theorem res6A : Statement (.res6A) := every _
theorem res7B : Statement (.res7B) := every _
theorem res7C : Statement (.res7C) := every _
theorem res7D : Statement (.res7D) := every _
theorem res7E : Statement (.res7E) := every _
theorem res7H : Statement (.res7H) := every _
theorem res7L : Statement (.res7L) := every _
theorem res7MemHl : Statement (.res7MemHl) := every _
theorem res7A : Statement (.res7A) := every _
theorem set0B : Statement (.set0B) := every _
theorem set0C : Statement (.set0C) := every _
theorem set0D : Statement (.set0D) := every _
theorem set0E : Statement (.set0E) := every _
theorem set0H : Statement (.set0H) := every _
theorem set0L : Statement (.set0L) := every _
theorem set0MemHl : Statement (.set0MemHl) := every _
theorem set0A : Statement (.set0A) := every _
theorem set1B : Statement (.set1B) := every _
theorem set1C : Statement (.set1C) := every _
theorem set1D : Statement (.set1D) := every _
theorem set1E : Statement (.set1E) := every _
theorem set1H : Statement (.set1H) := every _
theorem set1L : Statement (.set1L) := every _
theorem set1MemHl : Statement (.set1MemHl) := every _
theorem set1A : Statement (.set1A) := every _
theorem set2B : Statement (.set2B) := every _
theorem set2C : Statement (.set2C) := every _
theorem set2D : Statement (.set2D) := every _
theorem set2E : Statement (.set2E) := every _
theorem set2H : Statement (.set2H) := every _
theorem set2L : Statement (.set2L) := every _
theorem set2MemHl : Statement (.set2MemHl) := every _
theorem set2A : Statement (.set2A) := every _
theorem set3B : Statement (.set3B) := every _
theorem set3C : Statement (.set3C) := every _
theorem set3D : Statement (.set3D) := every _
theorem set3E : Statement (.set3E) := every _
theorem set3H : Statement (.set3H) := every _
theorem set3L : Statement (.set3L) := every _
theorem set3MemHl : Statement (.set3MemHl) := every _
theorem set3A : Statement (.set3A) := every _
theorem set4B : Statement (.set4B) := every _
theorem set4C : Statement (.set4C) := every _
theorem set4D : Statement (.set4D) := every _
theorem set4E : Statement (.set4E) := every _
theorem set4H : Statement (.set4H) := every _
theorem set4L : Statement (.set4L) := every _
theorem set4MemHl : Statement (.set4MemHl) := every _
theorem set4A : Statement (.set4A) := every _
theorem set5B : Statement (.set5B) := every _
theorem set5C : Statement (.set5C) := every _
theorem set5D : Statement (.set5D) := every _
theorem set5E : Statement (.set5E) := every _
theorem set5H : Statement (.set5H) := every _
theorem set5L : Statement (.set5L) := every _
theorem set5MemHl : Statement (.set5MemHl) := every _
theorem set5A : Statement (.set5A) := every _
theorem set6B : Statement (.set6B) := every _
theorem set6C : Statement (.set6C) := every _
theorem set6D : Statement (.set6D) := every _
theorem set6E : Statement (.set6E) := every _
theorem set6H : Statement (.set6H) := every _
theorem set6L : Statement (.set6L) := every _
theorem set6MemHl : Statement (.set6MemHl) := every _
theorem set6A : Statement (.set6A) := every _
theorem set7B : Statement (.set7B) := every _
theorem set7C : Statement (.set7C) := every _
theorem set7D : Statement (.set7D) := every _
theorem set7E : Statement (.set7E) := every _
theorem set7H : Statement (.set7H) := every _
theorem set7L : Statement (.set7L) := every _
theorem set7MemHl : Statement (.set7MemHl) := every _
theorem set7A : Statement (.set7A) := every _

end Sys2Proof.Laws.EncodeShape
end

