-- ==== Sys2Proof/Tests/Slice0.lean ====
section
/-! SUPPORT. The model's own tests: the ill-formed terms, words written out from the encodings, the worked examples of the
rules' own "Example" and "Corner cases" lines (their expected results stand in the spec). -/

open Sys2Proof Sys2Proof.Machine

namespace Sys2Proof.Tests

/-- The bytes placed at `pc`, then one step. -/
def run (s : State) (bytes : List Byte) : State :=
  match step (s.storeBytes s.pc bytes) with
  | .next t => t
  | .fault _ => s
  | .refused _ => s

/-- What a step does to a state with the given bytes at its `pc`: the test is told the state before and the state after. -/
def check (s : State) (bytes : List Byte) (p : State → State → Bool) : Bool :=
  p (s.storeBytes s.pc bytes) (run s bytes)

/-- The source's own profile, under which the four gaps are kept. -/
def asBuilt : Config := { profile := .asBuilt, table := .tFull, addImpl := [.a, .b, .c, .d, .e, .h, .l] }

/-- The source's own table. -/
def srcTable : Config := { profile := .completed, table := .tSrc, addImpl := [.a, .b, .c, .d, .e, .h, .l] }

/-- The source's table with the decided bytes. -/
def minTable : Config := { profile := .completed, table := .tMin, addImpl := [.a, .b, .c, .d, .e, .h, .l] }

/-! ## Ill-formed terms -/

theorem test_marker_is_no_unknown_byte : ¬WellFormed .tFull (.unknown 0xCB) := by decide
theorem test_assigned_byte_is_not_unknown : ¬WellFormed .tFull (.unknown 0x00) := by decide
theorem test_assigned_second_byte_is_no_marker_term : ¬WellFormed .tFull (.prefixCB 0x00) := by decide
theorem test_source_second_byte_is_no_marker_term : ¬WellFormed .tSrc (.prefixCB 0x00) := by decide
theorem test_extension_is_absent_under_min : ¬WellFormed .tMin .nop := by decide
theorem test_decided_is_absent_under_src : ¬WellFormed .tSrc .addAB := by decide
theorem test_well_formed_terms :
    WellFormed .tFull .nop ∧ WellFormed .tMin .addAB ∧ WellFormed .tSrc .incBc ∧ WellFormed .tSrc .rlcB ∧
    WellFormed .tFull (.unknown 0x76) ∧ WellFormed .tMin (.prefixCB 0x01) := by decide

/-! ## Words, written out from the encodings of spec/30_encoding.md and the rules -/

/-- `10 000 001`: `alu[0]` with `r[1]`. -/
theorem test_decode_add_a_c : decode .tMin [0b10000001] = .ok (.addAC, []) := rfl
/-- `00 100 011`: `INC rp[2]`. -/
theorem test_decode_inc_hl : decode .tFull [0b00100011] = .ok (.incHl, []) := rfl
/-- 0x02 is the source's Inc(BC), not a store of A. -/
theorem test_decode_inc_bc_of_the_source : decode .tSrc [0x02] = .ok (.incBc, []) := rfl
/-- 0x03 is Inc(BC) too. -/
theorem test_decode_inc_bc_second_byte : decode .tFull [0x03] = .ok (.incBc, []) := rfl
/-- The marker and `00 000 111`: `rot[0]` with `r[7]`. -/
theorem test_decode_rlc_a : decode .tFull [0xCB, 0b00000111] = .ok (.rlcA, []) := rfl
/-- `11 010 010`: `JP cc[2],nn`. -/
theorem test_decode_jp_nc : decode .tMin [0b11010010, 0x34, 0x12] = .ok (.jpNcNn, [0x34, 0x12]) := rfl
/-- `01 110 011`: `LD (HL),r[3]`. -/
theorem test_decode_store_e : decode .tFull [0b01110011] = .ok (.ldMemHlE, []) := rfl
/-- `01 110 110` is unknown. -/
theorem test_decode_halt_byte_is_unknown : decode .tFull [0b01110110] = .ok (.unknown 0x76, []) := rfl
/-- `11 11 0001`: `POP rp2[3]`. -/
theorem test_decode_pop_af : decode .tFull [0b11110001] = .ok (.popAf, []) := rfl
/-- `11 111 110`: `alu[7]` with an immediate. -/
theorem test_decode_cp_n : decode .tFull [0b11111110, 0x40] = .ok (.cpAN, [0x40]) := rfl
/-- `00 11 1001`: `ADD HL,rp[3]`. -/
theorem test_decode_add_hl_sp : decode .tFull [0b00111001] = .ok (.addHlSp, []) := rfl
/-- The marker and `11 001 011`: `SET 1,r[3]`. -/
theorem test_decode_set_1_e : decode .tFull [0xCB, 0xCB] = .ok (.set1E, []) := rfl
/-- `11 011 100`: `CALL cc[3],nn`. -/
theorem test_decode_call_c : decode .tFull [0b11011100, 0x00, 0x02] = .ok (.callCNn, [0x00, 0x02]) := rfl
/-- The table's numbering: the marker is the low byte. -/
theorem test_decode_table_word : decodeTableWord 16 0x46CB = some .bit0MemHl := rfl
theorem test_decode_table_word_drops_high_bits : decodeTableWord 8 0x11C3 = some .jpNn := rfl
theorem test_encode_samples :
    encode .incBc = [0x02] ∧ encode .set1E = [0xCB, 0xCB] ∧ encode .jpNn = [0xC3] ∧ encode (.unknown 0xFF) = [0xFF] := by
  decide
theorem test_lone_marker_is_an_error : decode .tFull [0xCB] = .error .loneMarker := rfl
theorem test_fetch_word_is_the_next_instruction :
    fetchInstr (State.reset.withFetchWord 24 0x1234C3) = .jpNn := by decide
theorem test_fetch_word_runs :
    step (State.reset.withFetchWord 24 0x1234C3) =
      .next { State.reset.withFetchWord 24 0x1234C3 with pc := 0x1234 } := rfl

/-! ## Worked examples -/

theorem test_add_register_sets_half_carry_and_wraps :
    check { State.reset with a := 0x0F, b := 0x01 } [0x80] (fun _ s =>
      decide (s.a = 0x10 ∧ s.f = ⟨false, false, true, false⟩)) = true := by decide

theorem test_add_a_to_itself :
    check { State.reset with a := 0x80 } [0x87] (fun _ s =>
      decide (s.a = 0x00 ∧ s.f = ⟨true, false, false, true⟩)) = true := by decide

theorem test_inc_bc_carries_between_registers :
    check { State.reset with b := 0x00, c := 0xFF } [0x02] (fun _ s => decide (s.b = 0x01 ∧ s.c = 0x00)) = true := by decide

theorem test_inc_de_wraps_without_flags :
    check { State.reset with d := 0xFF, e := 0xFF } [0x13] (fun s0 s => decide (s.d = 0x00 ∧ s.f = s0.f)) = true := by decide

theorem test_rlc_b_moves_bit_7_to_bit_0 :
    check { State.reset with b := 0x80 } [0xCB, 0x00] (fun _ s =>
      decide (s.b = 0x01 ∧ s.f = ⟨false, false, false, true⟩)) = true := by decide

theorem test_jp_reads_low_byte_first :
    check State.reset [0xC3, 0x34, 0x12] (fun _ s => decide (s.pc = 0x1234)) = true := by decide

theorem test_jp_not_taken_skips_three_bytes :
    check { State.reset with f := ⟨true, false, false, false⟩ } [0xC2, 0x34, 0x12] (fun _ s =>
      decide (s.pc = 0x0003)) = true := by decide

theorem test_ld_b_c :
    check { State.reset with b := 0x12, c := 0x34 } [0x41] (fun _ s =>
      decide (s.b = 0x34 ∧ s.c = 0x34 ∧ s.pc = 0x0001)) = true := by decide

theorem test_ld_h_from_memory_at_old_hl :
    check { State.reset with h := 0xC0, l := 0x00, mem := [(0xC000, 0x5A)] } [0x66] (fun _ s =>
      decide (s.h = 0x5A ∧ s.l = 0x00)) = true := by decide

theorem test_ld_memory_hl_a :
    check { State.reset with h := 0xC0, l := 0x01, a := 0x77 } [0x77] (fun _ s =>
      decide (s.load8 0xC001 = 0x77)) = true := by decide

theorem test_ld_a_immediate :
    check State.reset [0x3E, 0x2A] (fun _ s => decide (s.a = 0x2A ∧ s.pc = 0x0002)) = true := by decide

theorem test_ld_memory_hl_immediate :
    check { State.reset with h := 0xC0, l := 0x02 } [0x36, 0x99] (fun _ s =>
      decide (s.load8 0xC002 = 0x99)) = true := by decide

theorem test_ld_a_memory_bc :
    check { State.reset with b := 0xC0, c := 0x10, mem := [(0xC010, 0x42)] } [0x0A] (fun _ s =>
      decide (s.a = 0x42)) = true := by decide

theorem test_ld_a_memory_de :
    check { State.reset with d := 0xC0, e := 0x11, mem := [(0xC011, 0x43)] } [0x1A] (fun _ s =>
      decide (s.a = 0x43)) = true := by decide

theorem test_ld_memory_de_a :
    check { State.reset with d := 0xC0, e := 0x12, a := 0x44 } [0x12] (fun _ s =>
      decide (s.load8 0xC012 = 0x44)) = true := by decide

theorem test_ld_a_memory_nn :
    check { State.reset with mem := [(0xC123, 0x9C)] } [0xFA, 0x23, 0xC1] (fun _ s =>
      decide (s.a = 0x9C ∧ s.pc = 0x0003)) = true := by decide

theorem test_ld_memory_nn_a :
    check { State.reset with a := 0x5D } [0xEA, 0x00, 0xC2] (fun _ s => decide (s.load8 0xC200 = 0x5D)) = true := by decide

theorem test_ldh_a_memory_n :
    check { State.reset with mem := [(0xFF80, 0x11)] } [0xF0, 0x80] (fun _ s => decide (s.a = 0x11)) = true := by decide

theorem test_ldh_memory_n_a :
    check { State.reset with a := 0x22 } [0xE0, 0x81] (fun _ s => decide (s.load8 0xFF81 = 0x22)) = true := by decide

theorem test_ld_a_memory_c :
    check { State.reset with c := 0x82, mem := [(0xFF82, 0x33)] } [0xF2] (fun _ s => decide (s.a = 0x33)) = true := by decide

theorem test_ld_memory_c_a :
    check { State.reset with c := 0x83, a := 0x44 } [0xE2] (fun _ s => decide (s.load8 0xFF83 = 0x44)) = true := by decide

theorem test_ld_memory_hl_plus_a :
    check { State.reset with h := 0xC0, l := 0xFF, a := 0x01 } [0x22] (fun _ s =>
      decide (s.load8 0xC0FF = 0x01 ∧ s.h = 0xC1 ∧ s.l = 0x00)) = true := by decide

theorem test_ld_a_memory_hl_plus :
    check { State.reset with h := 0xC0, l := 0x00, mem := [(0xC000, 0x5A)] } [0x2A] (fun _ s =>
      decide (s.a = 0x5A ∧ s.l = 0x01)) = true := by decide

theorem test_ld_memory_hl_minus_a :
    check { State.reset with h := 0xC1, l := 0x00, a := 0x02 } [0x32] (fun _ s =>
      decide (s.load8 0xC100 = 0x02 ∧ s.h = 0xC0 ∧ s.l = 0xFF)) = true := by decide

theorem test_ld_a_memory_hl_minus :
    check { State.reset with h := 0xC0, l := 0x00, mem := [(0xC000, 0x5A)] } [0x3A] (fun _ s =>
      decide (s.a = 0x5A ∧ s.h = 0xBF ∧ s.l = 0xFF)) = true := by decide

theorem test_ld_hl_nn :
    check State.reset [0x21, 0x34, 0x12] (fun _ s => decide (s.h = 0x12 ∧ s.l = 0x34)) = true := by decide

theorem test_ld_memory_nn_sp :
    check { State.reset with sp := 0xDFF0 } [0x08, 0x00, 0xC3] (fun _ s =>
      decide (s.load8 0xC300 = 0xF0 ∧ s.load8 0xC301 = 0xDF)) = true := by decide

theorem test_ld_sp_hl :
    check { State.reset with h := 0xD0, l := 0x00 } [0xF9] (fun _ s => decide (s.sp = 0xD000)) = true := by decide

theorem test_ld_hl_sp_plus_displacement :
    check { State.reset with sp := 0xFFF8 } [0xF8, 0x08] (fun _ s =>
      decide (s.h = 0x00 ∧ s.f = ⟨false, false, true, true⟩)) = true := by decide

theorem test_ld_hl_sp_minus_one :
    check { State.reset with sp := 0x0000 } [0xF8, 0xFF] (fun _ s =>
      decide (s.h = 0xFF ∧ s.f = ⟨false, false, false, false⟩)) = true := by decide

theorem test_push_bc :
    check { State.reset with b := 0x12, c := 0x34, sp := 0xD000 } [0xC5] (fun _ s =>
      decide (s.load8 0xCFFF = 0x12 ∧ s.load8 0xCFFE = 0x34 ∧ s.sp = 0xCFFE)) = true := by decide

theorem test_pop_af_ignores_the_low_nibble :
    check { State.reset with sp := 0xCFFE, mem := [(0xCFFE, 0xFF), (0xCFFF, 0x12)] } [0xF1] (fun _ s =>
      decide (s.a = 0x12 ∧ s.readF = 0xF0 ∧ s.sp = 0xD000)) = true := by decide

theorem test_add_a_immediate :
    check { State.reset with a := 0x3C } [0xC6, 0xC4] (fun _ s =>
      decide (s.a = 0x00 ∧ s.f = ⟨true, false, true, true⟩)) = true := by decide

theorem test_adc_a_e :
    check { State.reset with a := 0xE1, e := 0x0F, f := ⟨false, false, false, true⟩ } [0x8B] (fun _ s =>
      decide (s.a = 0xF1 ∧ s.f = ⟨false, false, true, false⟩)) = true := by decide

theorem test_sub_a_immediate :
    check { State.reset with a := 0x3E } [0xD6, 0x0F] (fun _ s =>
      decide (s.a = 0x2F ∧ s.f = ⟨false, true, true, false⟩)) = true := by decide

theorem test_sbc_a_h :
    check { State.reset with a := 0x3B, h := 0x2A, f := ⟨false, false, false, true⟩ } [0x9C] (fun _ s =>
      decide (s.a = 0x10 ∧ s.f = ⟨false, true, false, false⟩)) = true := by decide

theorem test_and_immediate :
    check { State.reset with a := 0x5A } [0xE6, 0x0F] (fun _ s =>
      decide (s.a = 0x0A ∧ s.f = ⟨false, false, true, false⟩)) = true := by decide

theorem test_xor_immediate :
    check { State.reset with a := 0xFF } [0xEE, 0x0F] (fun _ s => decide (s.a = 0xF0)) = true := by decide

theorem test_or_immediate :
    check { State.reset with a := 0x5A } [0xF6, 0x03] (fun _ s => decide (s.a = 0x5B)) = true := by decide

theorem test_cp_immediate :
    check { State.reset with a := 0x3C } [0xFE, 0x40] (fun _ s =>
      decide (s.a = 0x3C ∧ s.f = ⟨false, true, false, true⟩)) = true := by decide

theorem test_inc_a_keeps_carry :
    check { State.reset with a := 0x0F, f := ⟨false, false, false, true⟩ } [0x3C] (fun _ s =>
      decide (s.a = 0x10 ∧ s.f = ⟨false, false, true, true⟩)) = true := by decide

theorem test_dec_b_to_zero :
    check { State.reset with b := 0x01 } [0x05] (fun _ s =>
      decide (s.b = 0x00 ∧ s.f = ⟨true, true, false, false⟩)) = true := by decide

theorem test_add_hl_bc_keeps_zero :
    check { State.reset with h := 0x8A, l := 0x23, b := 0x06, c := 0x05, f := ⟨true, false, false, false⟩ } [0x09] (fun _ s =>
      decide (s.h = 0x90 ∧ s.l = 0x28 ∧ s.f = ⟨true, false, true, false⟩)) = true := by decide

theorem test_dec_de :
    check { State.reset with d := 0x10, e := 0x00 } [0x1B] (fun _ s => decide (s.d = 0x0F ∧ s.e = 0xFF)) = true := by decide

theorem test_add_sp_displacement :
    check { State.reset with sp := 0xD0FF } [0xE8, 0x01] (fun _ s =>
      decide (s.sp = 0xD100 ∧ s.f = ⟨false, false, true, true⟩)) = true := by decide

theorem test_nop_wraps_pc :
    check { State.reset with pc := 0xFFFF } [0x00] (fun _ s => decide (s.pc = 0x0000)) = true := by decide

theorem test_rlca :
    check { State.reset with a := 0x85 } [0x07] (fun _ s =>
      decide (s.a = 0x0B ∧ s.f = ⟨false, false, false, true⟩)) = true := by decide

theorem test_rrca :
    check { State.reset with a := 0x3B } [0x0F] (fun _ s =>
      decide (s.a = 0x9D ∧ s.f = ⟨false, false, false, true⟩)) = true := by decide

theorem test_rla :
    check { State.reset with a := 0x95, f := ⟨false, false, false, true⟩ } [0x17] (fun _ s =>
      decide (s.a = 0x2B ∧ s.f.c = true)) = true := by decide

theorem test_rra :
    check { State.reset with a := 0x81 } [0x1F] (fun _ s => decide (s.a = 0x40 ∧ s.f.c = true)) = true := by decide

theorem test_daa_after_addition :
    check { State.reset with a := 0x9A } [0x27] (fun _ s =>
      decide (s.a = 0x00 ∧ s.f = ⟨true, false, false, true⟩)) = true := by decide

theorem test_daa_after_subtraction :
    check { State.reset with a := 0x00, f := ⟨false, true, true, true⟩ } [0x27] (fun _ s =>
      decide (s.a = 0x9A ∧ s.f = ⟨false, true, false, true⟩)) = true := by decide

theorem test_cpl :
    check { State.reset with a := 0x35 } [0x2F] (fun _ s => decide (s.a = 0xCA ∧ s.readF = 0x60)) = true := by decide

theorem test_scf :
    check { State.reset with f := ⟨true, true, true, false⟩ } [0x37] (fun _ s => decide (s.readF = 0x90)) = true := by decide

theorem test_ccf :
    check { State.reset with f := ⟨true, true, true, true⟩ } [0x3F] (fun _ s => decide (s.readF = 0x80)) = true := by decide

theorem test_rlc_memory_hl :
    check { State.reset with h := 0xC0, l := 0x00, mem := [(0xC000, 0x80)] } [0xCB, 0x06] (fun _ s =>
      decide (s.load8 0xC000 = 0x01 ∧ s.f.c = true)) = true := by decide

theorem test_rrc_c :
    check { State.reset with c := 0x01 } [0xCB, 0x09] (fun _ s => decide (s.c = 0x80 ∧ s.f.c = true)) = true := by decide

theorem test_rl_l :
    check { State.reset with l := 0x80 } [0xCB, 0x15] (fun _ s =>
      decide (s.l = 0x00 ∧ s.f = ⟨true, false, false, true⟩)) = true := by decide

theorem test_rr_a :
    check { State.reset with a := 0x01 } [0xCB, 0x1F] (fun _ s =>
      decide (s.a = 0x00 ∧ s.f = ⟨true, false, false, true⟩)) = true := by decide

theorem test_sla_d :
    check { State.reset with d := 0x80 } [0xCB, 0x22] (fun _ s =>
      decide (s.d = 0x00 ∧ s.f = ⟨true, false, false, true⟩)) = true := by decide

theorem test_sra_a :
    check { State.reset with a := 0x8A } [0xCB, 0x2F] (fun _ s => decide (s.a = 0xC5 ∧ s.f.c = false)) = true := by decide

theorem test_swap_a :
    check { State.reset with a := 0xF1, f := ⟨false, false, false, true⟩ } [0xCB, 0x37] (fun _ s =>
      decide (s.a = 0x1F ∧ s.f.c = false)) = true := by decide

theorem test_srl_a :
    check { State.reset with a := 0xFF } [0xCB, 0x3F] (fun _ s => decide (s.a = 0x7F ∧ s.f.c = true)) = true := by decide

theorem test_bit_7_a :
    check { State.reset with a := 0x80, f := ⟨false, false, false, true⟩ } [0xCB, 0x7F] (fun _ s =>
      decide (s.f = ⟨false, false, true, true⟩)) = true := by decide

theorem test_res_0_a :
    check { State.reset with a := 0xFF } [0xCB, 0x87] (fun s0 s => decide (s.a = 0xFE ∧ s.f = s0.f)) = true := by decide

theorem test_set_7_memory_hl :
    check { State.reset with h := 0xC0, l := 0x00 } [0xCB, 0xFE] (fun _ s =>
      decide (s.load8 0xC000 = 0x80)) = true := by decide

theorem test_jr_forward :
    check { State.reset with pc := 0x0100 } [0x18, 0x05] (fun _ s => decide (s.pc = 0x0107)) = true := by decide

theorem test_jr_backward_wraps :
    check State.reset [0x18, 0x80] (fun _ s => decide (s.pc = 0xFF82)) = true := by decide

theorem test_jr_nz_backward :
    check { State.reset with pc := 0x0105 } [0x20, 0xFB] (fun _ s => decide (s.pc = 0x0102)) = true := by decide

theorem test_jp_hl :
    check { State.reset with h := 0x12, l := 0x34 } [0xE9] (fun _ s => decide (s.pc = 0x1234)) = true := by decide

theorem test_call_nn :
    check { State.reset with sp := 0xD000, pc := 0x0150 } [0xCD, 0x00, 0x02] (fun _ s =>
      decide (s.pc = 0x0200 ∧ s.sp = 0xCFFE ∧ s.load8 0xCFFF = 0x01 ∧ s.load8 0xCFFE = 0x53)) = true := by decide

theorem test_call_c_not_taken :
    check { State.reset with sp := 0xD000, pc := 0x0150 } [0xDC, 0x00, 0x02] (fun _ s =>
      decide (s.pc = 0x0153 ∧ s.sp = 0xD000)) = true := by decide

theorem test_ret :
    check { State.reset with sp := 0xCFFE, pc := 0x0200, mem := [(0xCFFE, 0x53), (0xCFFF, 0x01)] } [0xC9] (fun _ s =>
      decide (s.pc = 0x0153 ∧ s.sp = 0xD000)) = true := by decide

theorem test_ret_nz_not_taken :
    check { State.reset with sp := 0xCFFE, pc := 0x0200, f := ⟨true, false, false, false⟩ } [0xC0] (fun _ s =>
      decide (s.pc = 0x0201 ∧ s.sp = 0xCFFE)) = true := by decide

theorem test_rst_28h :
    check { State.reset with sp := 0xD000, pc := 0x0234 } [0xEF] (fun _ s =>
      decide (s.pc = 0x0028 ∧ s.load8 0xCFFF = 0x02 ∧ s.load8 0xCFFE = 0x35)) = true := by decide

theorem test_unknown_byte_halts :
    check { State.reset with pc := 0x0100, a := 0x12 } [0xFF] (fun _ s =>
      decide (s.halted = some ⟨0xFF, false, 0x0100⟩ ∧ s.pc = 0x0100)) = true := by decide

theorem test_unknown_second_byte_halts_under_the_source_table :
    check { State.reset with pc := 0x0100, cfg := srcTable } [0xCB, 0x01] (fun _ s =>
      decide (s.halted = some ⟨0x01, true, 0x0100⟩)) = true := by decide

theorem test_inc_stays_under_as_built :
    check { State.reset with cfg := asBuilt } [0x02] (fun _ s => decide (s.c = 0x01 ∧ s.pc = 0x0000)) = true := by decide

theorem test_rlc_does_nothing_under_as_built :
    check { State.reset with b := 0x80, cfg := asBuilt } [0xCB, 0x00] (fun s0 s => decide (s = s0)) = true := by decide

/-! ## A concrete state and operands for the hypotheses of each statement, clause by clause -/

/-- A running state with bytes at its `pc`. -/
def placed (s : State) (bytes : List Byte) : State := s.storeBytes s.pc bytes

/-- A halted state whose record is true. -/
def haltedState : State := { placed State.reset [0xFF] with halted := some ⟨0xFF, false, 0x0000⟩ }

theorem witness_DecodeOfEncodeIsIdentity :
    WellFormed .tFull .set1E ∧ WellFormed .tMin (.prefixCB 0x01) ∧ WellFormed .tSrc (.unknown 0xFF) := by decide
theorem witness_EncodeOfDecodeIsTheWordRead :
    decode .tFull [0x03, 0x77] = .ok (.incBc, [0x77]) ∧ decode .tMin [0xCB, 0x01] = .ok (.prefixCB 0x01, []) := ⟨rfl, rfl⟩
theorem witness_SourceCellsHoldUnderEveryTable :
    (¬(false = false ∧ ((0x00 : Byte) = 0x02 ∨ (0x00 : Byte) = 0x13)) ∧ ¬(false = true ∧ (0x00 : Byte) = 0x00)) ∧
    ¬(true = false ∧ ((0x02 : Byte) = 0x02 ∨ (0x02 : Byte) = 0x13)) ∧ ¬(true = true ∧ (0x02 : Byte) = 0x00) := by decide
theorem witness_DecidedCellsOfAddAndJp : Table.tMin ≠ .tSrc ∧ Table.tFull ≠ .tSrc := by decide
theorem witness_UnknownCellsAreTheListedOnes :
    Claims.unknownCell { State.reset with cfg := minTable }.cfg.table 0x01 true ∧
    (0xFF : Byte) ≠ 0xCB ∧ Table.tMin ≠ .tFull ∧ ((0x86 : Byte), false) ∉ sourceCells ∧
    ¬(false = false ∧ (0x86 : Byte) ∈ decidedBytes) := ⟨rfl, by decide, by decide, by decide, by decide⟩
theorem witness_StepRunsTheDecodedInstruction :
    (placed State.reset [0xC3, 0x34]).halted = none ∧
    decode (placed State.reset [0xC3, 0x34]).cfg.table
      ((placed State.reset [0xC3, 0x34]).load8 0x0000 :: (placed State.reset [0xC3, 0x34]).load8 0x0001 :: [0x12]) =
        .ok (.jpNn, [0x34, 0x12]) := ⟨rfl, rfl⟩
theorem witness_StepRunsTheDecodedInstruction_marked :
    decode (placed State.reset [0xCB, 0x46]).cfg.table
      ((placed State.reset [0xCB, 0x46]).load8 0x0000 :: (placed State.reset [0xCB, 0x46]).load8 0x0001 :: []) =
        .ok (.bit0MemHl, []) := rfl
theorem witness_HaltedStepIsTheIdentity : haltedState.halted = some ⟨0xFF, false, 0x0000⟩ := rfl
theorem witness_UnknownOpcodeLatchesTheHaltRecord :
    fetchOpcode (placed State.reset [0xFF]) = (0xFF, false) ∧ Claims.unknownCell .tFull 0xFF false := ⟨rfl, rfl⟩
theorem witness_UnknownOpcodeLatchesTheHaltRecord_marked :
    fetchOpcode (placed { State.reset with cfg := minTable } [0xCB, 0x01]) = (0x01, true) ∧
    Claims.unknownCell .tMin 0x01 true := ⟨rfl, rfl⟩
theorem witness_HaltsExactlyOnUnknownOpcodes :
    (placed State.reset [0xFF]).halted = none ∧ step (placed State.reset [0xFF]) = .next haltedState := ⟨rfl, rfl⟩
theorem witness_EveryStepKeepsTheInvariant :
    Inv haltedState ∧ step haltedState = .next haltedState := by
  refine ⟨⟨by decide, fun r hr => ?_⟩, rfl⟩
  injection hr with hr
  subst hr
  exact ⟨rfl, rfl, rfl⟩
theorem witness_EveryStepKeepsTheInvariant_running :
    Inv State.reset ∧ step State.reset = .next { State.reset with pc := 0x0001 } := by
  refine ⟨⟨by decide, fun r hr => ?_⟩, rfl⟩
  exact nomatch hr
theorem witness_ConfigurationNeverChanges :
    exec .nop State.reset = .next { State.reset with pc := 0x0001 } ∧
    step State.reset = .next { State.reset with pc := 0x0001 } := ⟨rfl, rfl⟩
theorem witness_HaltedStatesAbsorbEveryRun :
    RunsTo 1 (placed State.reset [0xFF]) haltedState ∧ haltedState.halted ≠ none ∧
    RunsTo 1 haltedState haltedState ∧ (placed State.reset [0xFF]).halted = none :=
  ⟨.succ rfl (.zero _), by decide, .succ rfl (.zero _), rfl⟩
theorem witness_AsBuiltLivelock_inc :
    (fetchInstr (placed { State.reset with cfg := asBuilt } [0x02])).kind = .inc .bc ∧ asBuilt.profile = .asBuilt := ⟨rfl, rfl⟩
theorem witness_AsBuiltLivelock_rlc :
    (fetchInstr (placed { State.reset with cfg := asBuilt } [0xCB, 0x00])).kind = .cb (.rot .rlc) (.reg .b) := rfl
theorem witness_AsBuiltLivelock_add :
    (fetchInstr (placed { State.reset with cfg := { asBuilt with addImpl := [.b] } } [0x81])).kind =
      .alu .add (.reg .c) ∧ Reg8.c ∉ [Reg8.b] := ⟨rfl, by decide⟩
theorem witness_StepOutcomesMeanWhatTheySay :
    stepReport haltedState = .halted ∧ stepReport (placed State.reset [0xFF]) = .illegalOpcode 0xFF false 0x0000 ∧
    stepReport State.reset = .ok ∧
    stepReport (placed { State.reset with cfg := asBuilt } [0xCB, 0x00]) = .unimplemented (.cb (.rot .rlc) (.reg .b)) := by
  decide
theorem witness_MemoryAfterAStepIsItsWrites :
    step (placed { State.reset with a := 0x77, h := 0xC0 } [0x77]) =
      .next { placed { State.reset with a := 0x77, h := 0xC0 } [0x77] with
        pc := 0x0001, mem := [(0x0000, 0x77), (0xC000, 0x77)] } ∧
    writtenBy (stepAccesses (placed { State.reset with a := 0x77, h := 0xC0 } [0x77])) = [0xC000] := ⟨rfl, by decide⟩
theorem witness_MemoryFrameOfEveryInstruction :
    exec .ldMemHlA { State.reset with a := 0x77, h := 0xC0 } =
      .next { State.reset with a := 0x77, h := 0xC0, pc := 0x0001, mem := [(0xC000, 0x77)] } ∧
    (0xC001 : Word) ∉ writtenBy (kindAccesses Instr.ldMemHlA.kind { State.reset with a := 0x77, h := 0xC0 }) :=
  ⟨rfl, by decide⟩
theorem witness_RegisterFrameOfEveryInstruction :
    exec .ldBN State.reset = .next { State.reset with pc := 0x0002 } ∧ Reg8.a ∉ writableRegs Instr.ldBN.kind ∧
    maySetSp Instr.ldBN.kind = false ∧ ∀ op, Instr.ldBN ≠ .unknown op ∧ Instr.ldBN ≠ .prefixCB op :=
  ⟨rfl, by decide, rfl, fun _ => ⟨nofun, nofun⟩⟩
theorem witness_FlagFrameOfEveryInstruction :
    exec .nop State.reset = .next { State.reset with pc := 0x0001 } ∧
    writableFlags Instr.nop.kind = ⟨false, false, false, false⟩ := ⟨rfl, rfl⟩
theorem witness_StoreIsSeenByTheNextFetch :
    (placed { State.reset with a := 0x04, l := 0x01 } [0x77]).halted = none ∧
    fetchInstr (placed { State.reset with a := 0x04, l := 0x01 } [0x77]) = .ldMemHlA ∧
    Claims.word 0x00 0x01 = (0x0000 : Word) + 1 := ⟨rfl, rfl, rfl⟩
/-- A store of an ordinary byte, at the `pc` of the next step. -/
theorem witness_StoreIsSeenByTheNextFetch_opcode :
    step (placed { State.reset with a := 0x04, l := 0x01 } [0x77]) =
      .next { placed { State.reset with a := 0x04, l := 0x01 } [0x77] with
        pc := 0x0001, mem := [(0x0000, 0x77), (0x0001, 0x04)] } ∧
    stepAccesses (placed { State.reset with a := 0x04, l := 0x01 } [0x77]) = [.read 0x0000] ++ .write 0x0001 0x04 :: [] ∧
    (0x0001 : Word) ∉ writtenBy [] := ⟨rfl, by decide, by decide⟩
/-- A store of the marker, at the `pc` of the next step. -/
theorem witness_StoreIsSeenByTheNextFetch_marker :
    step (placed { State.reset with a := 0xCB, l := 0x01 } [0x77]) =
      .next { placed { State.reset with a := 0xCB, l := 0x01 } [0x77] with
        pc := 0x0001, mem := [(0x0000, 0x77), (0x0001, 0xCB)] } ∧
    stepAccesses (placed { State.reset with a := 0xCB, l := 0x01 } [0x77]) =
      [.read 0x0000] ++ .write 0x0001 0xCB :: [] := ⟨rfl, by decide⟩
/-- A store behind a marker that stands at the `pc` of the next step. -/
theorem witness_StoreIsSeenByTheNextFetch_marked :
    step (placed { State.reset with a := 0x46, l := 0x02 } [0x77, 0xCB]) =
      .next { placed { State.reset with a := 0x46, l := 0x02 } [0x77, 0xCB] with
        pc := 0x0001, mem := [(0x0000, 0x77), (0x0001, 0xCB), (0x0002, 0x46)] } ∧
    stepAccesses (placed { State.reset with a := 0x46, l := 0x02 } [0x77, 0xCB]) =
      [.read 0x0000] ++ .write 0x0002 0x46 :: [] ∧
    (0x0001 : Word) + 1 = 0x0002 := ⟨rfl, by decide, rfl⟩
theorem witness_AddRegisterToAccumulator :
    Table.tFull ≠ .tSrc ∧ State.reset.cfg.profile = .completed ∧ Reg8.b ∈ asBuilt.addImpl ∧
    asBuilt.profile = .asBuilt ∧ Reg8.c ∉ ({ asBuilt with addImpl := [.b] } : Config).addImpl := by decide
theorem witness_RotateRegisterLeftCircular :
    State.reset.cfg.profile = .completed ∧ { State.reset with cfg := asBuilt }.cfg.profile = .asBuilt := ⟨rfl, rfl⟩
/-- The state of the taken and not-taken clauses: Z and C set. -/
def zeroCarry : State := { State.reset with f := ⟨true, false, false, true⟩ }
/-- For JumpToAbsoluteAddress, RelativeAndIndirectJumps, CallsPushTheReturnAddress, ReturnsPopTheNextPc,
ReturnComesBackFromTheCall. -/
theorem witness_taken :
    Claims.taken .zero zeroCarry ∧ Claims.taken .carry zeroCarry ∧ Claims.taken .always zeroCarry ∧
    Claims.taken .notZero State.reset ∧ Claims.taken .notCarry State.reset := ⟨rfl, rfl, trivial, rfl, rfl⟩
theorem witness_notTaken :
    ¬Claims.taken .notZero zeroCarry ∧ ¬Claims.taken .notCarry zeroCarry ∧ ¬Claims.taken .zero State.reset ∧
    ¬Claims.taken .carry State.reset := ⟨nofun, nofun, nofun, nofun⟩
theorem witness_JumpToAbsoluteAddress : Table.tMin ≠ .tSrc ∧ Claims.taken .always State.reset := ⟨nofun, trivial⟩
theorem witness_AddAndAddWithCarry : Operand8.memHl = .memHl ∧ Operand8.imm = .imm := ⟨rfl, rfl⟩
theorem witness_DecimalAdjustMakesDecimalArithmetic :
    (99 < 100 ∧ 1 < 100) ∧ (placed { State.reset with a := 0x99 } [0xC6, 0x01]).a = Claims.bcd 99 ∧
    Claims.operand .imm (placed { State.reset with a := 0x99 } [0xC6, 0x01]) = Claims.bcd 1 ∧
    ∀ r, Operand8.imm = .reg r → State.reset.cfg.profile = .completed ∨ r ∈ State.reset.cfg.addImpl :=
  ⟨by decide, by decide, by decide, nofun⟩
theorem witness_DecimalAdjustMakesDecimalArithmetic_register :
    { State.reset with a := 0x45, b := 0x38 }.a = Claims.bcd 45 ∧
    Claims.operand (.reg .b) { State.reset with a := 0x45, b := 0x38 } = Claims.bcd 38 ∧
    (∀ r, Operand8.reg .b = .reg r → State.reset.cfg.profile = .completed ∨ r ∈ State.reset.cfg.addImpl) ∧
    ∀ r, Operand8.reg .b = .reg r → asBuilt.profile = .completed ∨ r ∈ asBuilt.addImpl := by
  refine ⟨by decide, by decide, fun _ _ => .inl rfl, fun r h => .inr ?_⟩
  cases h
  decide
theorem witness_DecimalAdjustMakesDecimalArithmetic_zero :
    0 < 100 ∧ State.reset.a = Claims.bcd 0 ∧ Claims.operand .memHl State.reset = Claims.bcd 0 := by decide
theorem witness_PrefixedRotatesAndShifts :
    (RotOp.rlc = .rlc → Loc8.memHl = .memHl) ∧ (RotOp.srl = .rlc → Loc8.reg .a = .memHl) := ⟨fun _ => rfl, nofun⟩
theorem witness_MarkerRunsTheSecondTable :
    ¬Claims.unknownCell .tFull 0x00 true ∧ Claims.unknownCell .tMin 0x01 true := ⟨nofun, rfl⟩

end Sys2Proof.Tests
end

section
/-! SUPPORT. The flags byte and the register pairs in the spec's own arithmetic (spec/10_state.md R23 to R28), and the two
statements about them. -/

open Sys2Proof Sys2Proof.Machine Sys2Proof.Claims

namespace Sys2Proof.Machine

/-! ## The flags byte -/

/-- The sum of R23 fits a byte, so the encoding loses none of it. -/
theorem toNat_encodeFlags (f : Flags) :
    (encodeFlags f).toNat = f.z.toNat * 0x80 + f.n.toNat * 0x40 + f.h.toNat * 0x20 + f.c.toNat * 0x10 := by
  have hz := f.z.toNat_le
  have hn := f.n.toNat_le
  have hh := f.h.toNat_le
  have hc := f.c.toNat_le
  rw [encodeFlags, BitVec.toNat_ofNat]
  omega

/-- A bit of a byte by division, as R24 reads it. -/
theorem getLsbD_eq_decide (b : Byte) (i : Nat) : b.getLsbD i = decide (b.toNat / 2 ^ i % 2 = 1) := by
  rw [← BitVec.testBit_toNat, Nat.testBit_eq_decide_div_mod_eq]

theorem decodeFlags_eq_decide (b : Byte) :
    decodeFlags b = ⟨decide (b.toNat / 128 % 2 = 1), decide (b.toNat / 64 % 2 = 1),
      decide (b.toNat / 32 % 2 = 1), decide (b.toNat / 16 % 2 = 1)⟩ := by
  simp only [decodeFlags, getLsbD_eq_decide, Nat.reducePow]

/-- The low byte of AF is the flags byte (R25). -/
theorem State.toNat_pair_af_mod (s : State) : (s.pair .af).toNat % 256 = (encodeFlags s.f).toNat := by
  rw [← toNat_lo8, State.pair, lo8_join, State.readF]

/-! ## The pairs -/

theorem word_eq_join (h l : Byte) : word h l = join h l := (join_eq_ofNat h l).symm

/-- Reading a pair joins its registers, high first (R26, R27). -/
theorem State.pair_eq_word (s : State) :
    s.pair .bc = word s.b s.c ∧ s.pair .de = word s.d s.e ∧ s.pair .hl = word s.h s.l ∧
      s.pair .af = word s.a (encodeFlags s.f) := by
  simp only [word_eq_join]
  exact ⟨rfl, rfl, rfl, rfl⟩

/-- Writing a pair splits the value into quotient and remainder by 256 (R26, R27). -/
theorem State.setPair_eq_ofNat (s : State) (v : Word) :
    s.setPair .bc v = { s with b := BitVec.ofNat 8 (v.toNat / 256), c := BitVec.ofNat 8 v.toNat } ∧
      s.setPair .de v = { s with d := BitVec.ofNat 8 (v.toNat / 256), e := BitVec.ofNat 8 v.toNat } ∧
      s.setPair .hl v = { s with h := BitVec.ofNat 8 (v.toNat / 256), l := BitVec.ofNat 8 v.toNat } ∧
      s.setPair .af v =
        { s with a := BitVec.ofNat 8 (v.toNat / 256), f := decodeFlags (BitVec.ofNat 8 v.toNat) } := by
  rw [← hi8_eq_ofNat, ← lo8_eq_ofNat]
  exact ⟨rfl, rfl, rfl, rfl⟩

/-- AF reads back without the low nibble, which the flags do not hold (R25, R28). -/
theorem State.pair_setPair_af (s : State) (v : Word) : (s.setPair .af v).pair .af = v &&& 0xFFF0 :=
  calc (s.setPair .af v).pair .af
      = join (hi8 v) (encodeFlags (decodeFlags (lo8 v))) := rfl
    _ = join (hi8 v) (lo8 v) &&& 0xFFF0 := by rw [encodeFlags_decodeFlags, join_and_lowNibble]
    _ = v &&& 0xFFF0 := by rw [join_hi8_lo8]

end Sys2Proof.Machine

namespace Sys2Proof.Proofs

/-- Settles O25: the bits of the byte by number, the two round trips, and the accessors of F and AF. -/
theorem flagsByteRoundTrip : Obligations.FlagsByteRoundTrip := by
  refine ⟨toNat_encodeFlags, decodeFlags_eq_decide, encodeFlags_decodeFlags, decodeFlags_encodeFlags,
    fun s b v => ⟨rfl, s.toNat_pair_af_mod, rfl, ?_⟩⟩
  rw [State.setPair_f, if_pos rfl, lo8_eq_ofNat]

/-- Settles O26: reading joins, writing splits, and the two undo each other but for the low nibble of AF. -/
theorem pairsAreViewsOfTheirRegisters : Obligations.PairsAreViewsOfTheirRegisters := fun s v =>
  ⟨s.pair_eq_word, s.setPair_eq_ofNat v,
    ⟨s.pair_setPair .bc v, s.pair_setPair .de v, s.pair_setPair .hl v, s.pair_setPair_af v⟩, s.setPair_pair⟩

end Sys2Proof.Proofs
end

section
/-! SUPPORT. Byte and word accesses in the spec's own arithmetic (spec/20_memory.md R52 to R56), and the statement about
them. -/

open Sys2Proof Sys2Proof.Machine Sys2Proof.Claims

namespace Sys2Proof.Machine

/-- The low byte `v[7:0]` as a remainder, as R55 writes it. -/
theorem lo8_eq_ofNat_mod (v : Word) : lo8 v = BitVec.ofNat 8 (v.toNat % 256) := by
  rw [← toNat_lo8, BitVec.ofNat_toNat, BitVec.setWidth_eq]

/-- A word read is the high byte at the next address over the low byte at its own (R54). -/
theorem State.load16_eq_word (s : State) (a : Word) : s.load16 a = word (s.load8 (a + 1)) (s.load8 a) :=
  (word_eq_join _ _).symm

/-- A word write is two byte writes, low byte first (R55). -/
theorem State.store16_eq_ofNat (s : State) (a v : Word) :
    s.store16 a v =
      (s.store8 a (BitVec.ofNat 8 (v.toNat % 256))).store8 (a + 1) (BitVec.ofNat 8 (v.toNat / 256)) := by
  rw [State.store16, lo8_eq_ofNat_mod, hi8_eq_ofNat]

theorem State.load8_store16_eq_ofNat (s : State) (a v b : Word) :
    (s.store16 a v).load8 b =
      if b = a then BitVec.ofNat 8 (v.toNat % 256) else if b = a + 1 then BitVec.ofNat 8 (v.toNat / 256)
      else s.load8 b := by
  have hne : a + 1 ≠ a := by bv_omega
  rw [State.load8_store16, lo8_eq_ofNat_mod, hi8_eq_ofNat]
  by_cases hlow : b = a
  · subst hlow
    rw [if_neg hne, if_pos rfl, if_pos rfl]
  · rw [if_neg hlow, if_neg (Ne.symm hlow)]
    exact if_congr eq_comm rfl rfl

end Sys2Proof.Machine

namespace Sys2Proof.Proofs

/-- Settles O23: the two reads after writes, the two words as bytes, and the word read at the last address, where the
address after it wraps to zero. -/
theorem memoryAccessesReadWhatWasWritten : Obligations.MemoryAccessesReadWhatWasWritten := by
  intro s a b v x
  have hwrap : (0xFFFF : Word) + 1 = 0x0000 := by decide
  refine ⟨(s.load8_store8 a b x).trans (if_congr eq_comm rfl rfl), s.load16_eq_word a, s.store16_eq_ofNat a v,
    s.load8_store16_eq_ofNat a v b, ?_⟩
  rw [State.load16_eq_word, hwrap]

end Sys2Proof.Proofs
end

section
/-! SUPPORT. Which cells a TABLE assigns and what the decoder answers for the others (spec/30_encoding.md R91, R92, R95,
R96), and the three statements about them. -/

open Sys2Proof Sys2Proof.Machine Sys2Proof.Claims

namespace Sys2Proof

/-! ## The cells a TABLE assigns -/

theorem Table.assigns_tSrc {op : Byte} {p : Bool} : Table.tSrc.assigns op p = true ↔ (op, p) ∈ sourceCells :=
  List.contains_iff_mem

theorem Table.assigns_tMin {op : Byte} {p : Bool} :
    Table.tMin.assigns op p = true ↔ (op, p) ∈ sourceCells ∨ p = false ∧ op ∈ decidedBytes := by
  simp [Table.assigns]

theorem Table.assigns_tFull {op : Byte} {p : Bool} :
    Table.tFull.assigns op p = true ↔ p = true ∨ op ∉ unknownBytes ∧ op ≠ 0xCB := by
  simp [Table.assigns]

theorem Table.assigns_tFull_of_mem_sourceCells {op : Byte} {p : Bool} (h : (op, p) ∈ sourceCells) :
    Table.tFull.assigns op p = true := by
  have hall : ∀ c ∈ sourceCells, Table.tFull.assigns c.1 c.2 = true := by decide +kernel
  exact hall _ h

theorem Table.assigns_tFull_of_mem_decidedBytes {op : Byte} (h : op ∈ decidedBytes) :
    Table.tFull.assigns op false = true := by
  have hall : ∀ b ∈ decidedBytes, Table.tFull.assigns b false = true := by decide
  exact hall _ h

/-- `T_full` assigns what every TABLE assigns. -/
theorem Table.assigns_tFull_of_assigns {t : Table} {op : Byte} {p : Bool} (h : t.assigns op p = true) :
    Table.tFull.assigns op p = true := by
  cases t with
  | tSrc => exact assigns_tFull_of_mem_sourceCells (assigns_tSrc.1 h)
  | tMin =>
    rcases assigns_tMin.1 h with hsource | ⟨rfl, hdecided⟩
    · exact assigns_tFull_of_mem_sourceCells hsource
    · exact assigns_tFull_of_mem_decidedBytes hdecided
  | tFull => exact h

/-- The source's cells hold under every TABLE (R91). -/
theorem Table.assigns_of_mem_sourceCells (t : Table) {op : Byte} {p : Bool} (h : (op, p) ∈ sourceCells) :
    t.assigns op p = true := by
  cases t with
  | tSrc => exact assigns_tSrc.2 h
  | tMin => exact assigns_tMin.2 (.inl h)
  | tFull => exact assigns_tFull_of_mem_sourceCells h

/-- The decided bytes hold under `T_min` and `T_full` (R92). -/
theorem Table.assigns_of_mem_decidedBytes {t : Table} (ht : t ≠ .tSrc) {op : Byte} (h : op ∈ decidedBytes) :
    t.assigns op false = true := by
  cases t with
  | tSrc => exact absurd rfl ht
  | tMin => exact assigns_tMin.2 (.inr ⟨rfl, h⟩)
  | tFull => exact assigns_tFull_of_mem_decidedBytes h

/-- The seventeen bytes of R96 hold under no TABLE. -/
theorem Table.not_assigns_of_mem_unknownBytes (t : Table) {op : Byte} (h : op ∈ unknownBytes) :
    ¬t.assigns op false = true := fun hassigns =>
  (assigns_tFull.1 (assigns_tFull_of_assigns hassigns)).elim nofun fun hknown => hknown.1 h

/-- Outside the source's cells and the decided bytes, only `T_full` assigns anything. -/
theorem Table.not_assigns_of_ne_tFull {t : Table} (ht : t ≠ .tFull) {op : Byte} {p : Bool}
    (hsource : (op, p) ∉ sourceCells) (hdecided : ¬(p = false ∧ op ∈ decidedBytes)) : ¬t.assigns op p = true := by
  cases t with
  | tSrc => exact fun h => hsource (assigns_tSrc.1 h)
  | tMin => exact fun h => (assigns_tMin.1 h).elim hsource hdecided
  | tFull => exact absurd rfl ht

/-! ## The decoder's answer for a cell -/

theorem decodeCell_of_assigns {t : Table} {op : Byte} {p : Bool} (h : t.assigns op p = true) :
    decodeCell t op p = gridCell op p := if_pos h

theorem decodeCell_of_mem_sourceCells (t : Table) {op : Byte} {p : Bool} (h : (op, p) ∈ sourceCells) :
    decodeCell t op p = gridCell op p := decodeCell_of_assigns (t.assigns_of_mem_sourceCells h)

theorem decodeCell_of_mem_decidedBytes {t : Table} (ht : t ≠ .tSrc) {op : Byte} (h : op ∈ decidedBytes) :
    decodeCell t op false = gridCell op false := decodeCell_of_assigns (Table.assigns_of_mem_decidedBytes ht h)

/-- Row by row of the unprefixed grid (R93): a byte that `T_full` assigns has an instruction there. -/
theorem gridCell_false_ne_unknown {op : Byte} (h : Table.tFull.assigns op false = true) :
    gridCell op false ≠ .unknown op := by
  revert op; decide +kernel

/-- Every cell of the prefixed grid is a prefixed operation (R94), never the marker alone. -/
theorem gridCell_true_ne_prefixCB (op : Byte) : gridCell op true ≠ .prefixCB op := by
  intro h
  have hkind := kind_markedCell op
  rw [h] at hkind
  exact nomatch hkind

/-- The decoder answers "unknown" for exactly the cells that TABLE does not assign. -/
theorem unknownCell_iff_not_assigns {t : Table} {op : Byte} {p : Bool} :
    unknownCell t op p ↔ ¬t.assigns op p = true := by
  constructor
  · intro hunknown hassigns
    rw [unknownCell, decodeCell_of_assigns hassigns] at hunknown
    cases p with
    | false => exact gridCell_false_ne_unknown (Table.assigns_tFull_of_assigns hassigns) hunknown
    | true => exact gridCell_true_ne_prefixCB op hunknown
  · exact fun h => if_neg h

/-- Under `T_full` the unprefixed unknown cells, but for the marker's, are the bytes of R96. -/
theorem unknownCell_tFull_false_iff {op : Byte} (h : op ≠ 0xCB) : unknownCell .tFull op false ↔ op ∈ unknownBytes := by
  rw [unknownCell_iff_not_assigns, Table.assigns_tFull, and_iff_left h]
  simp

end Sys2Proof

namespace Sys2Proof.Machine

/-- After the marker, a second byte that TABLE leaves unknown takes the exception (R87, R113). -/
theorem exec_prefixCB_of_unknownCell {op : Byte} {s : State} (h : unknownCell s.cfg.table op true) :
    exec (.prefixCB op) s = .next (raiseIllegal op true s) :=
  (exec_of_kind rfl s).trans (congrArg _ (if_neg (unknownCell_iff_not_assigns.1 h)))

end Sys2Proof.Machine

namespace Sys2Proof.Proofs

/-- Settles O4: the source's cells are read off the grids under every TABLE, and `T_src` assigns no other. -/
theorem sourceCellsHoldUnderEveryTable : Obligations.SourceCellsHoldUnderEveryTable := by
  refine ⟨fun t => ⟨decodeCell_of_mem_sourceCells t (by decide), decodeCell_of_mem_sourceCells t (by decide),
    unknownCell_iff_not_assigns.2 (t.not_assigns_of_mem_unknownBytes (by decide)), fun _ _ => rfl,
    decodeCell_of_mem_sourceCells t (by decide)⟩, fun op p hplain hmarked => ?_⟩
  rw [unknownCell_iff_not_assigns, Table.assigns_tSrc]
  intro hsource
  have hcells : (op = 0x02 ∧ p = false) ∨ (op = 0x13 ∧ p = false) ∨ (op = 0x00 ∧ p = true) := by
    simpa [sourceCells] using hsource
  rcases hcells with ⟨hop, hp⟩ | ⟨hop, hp⟩ | ⟨hop, hp⟩
  · exact hplain ⟨hp, .inl hop⟩
  · exact hplain ⟨hp, .inr hop⟩
  · exact hmarked ⟨hp, hop⟩

/-- Settles O5: the decided bytes are read off the unprefixed grid, and 0x86, which is not one of them, has its cell under
`T_full` only. -/
theorem decidedCellsOfAddAndJp : Obligations.DecidedCellsOfAddAndJp := by
  refine ⟨fun t ht => ?_, ?_, decodeCell_of_assigns (by decide)⟩
  · have hcell : ∀ op ∈ decidedBytes, decodeCell t op false = gridCell op false :=
      fun _ => decodeCell_of_mem_decidedBytes ht
    refine ⟨hcell _ ?_, hcell _ ?_, hcell _ ?_, hcell _ ?_, hcell _ ?_, hcell _ ?_, hcell _ ?_, hcell _ ?_, hcell _ ?_,
      hcell _ ?_, hcell _ ?_, hcell _ ?_⟩ <;> decide
  · exact unknownCell_iff_not_assigns.2 (by decide)

/-- Settles O7: a cell is unknown exactly when TABLE does not assign it, and either form of it takes the exception. -/
theorem unknownCellsAreTheListedOnes : Obligations.UnknownCellsAreTheListedOnes :=
  ⟨fun _ hop => unknownCell_tFull_false_iff hop,
    fun _ hunknown => unknownCell_iff_not_assigns.1 hunknown (Table.assigns_tFull.2 (.inl rfl)),
    fun _ _ _ ht hsource hdecided => unknownCell_iff_not_assigns.2 (Table.not_assigns_of_ne_tFull ht hsource hdecided),
    fun _ s => exec_of_kind rfl s,
    fun _ _ => exec_prefixCB_of_unknownCell⟩

end Sys2Proof.Proofs
end

section
/-! SUPPORT. What the step of a halted core and the step on an unknown opcode do (spec/40_step_cycle.md R113, R118, R119),
and the two statements about them. -/

open Sys2Proof Sys2Proof.Machine Sys2Proof.Claims

namespace Sys2Proof.Machine

/-! ## The output of a step, by the halt latch -/

theorem stepAccesses_of_halted {s : State} {r : HaltRecord} (h : s.halted = some r) : stepAccesses s = [] := by
  rw [stepAccesses, h]

theorem stepReport_of_halted {s : State} {r : HaltRecord} (h : s.halted = some r) : stepReport s = .halted := by
  rw [stepReport, h]

theorem stepReport_of_running {s : State} (h : s.halted = none) : stepReport s = reportKind (fetchInstr s).kind s := by
  rw [stepReport, h]

/-! ## An unknown opcode -/

/-- Fetch of an unknown cell decodes to that table's answer "unknown" (R112). -/
theorem fetchInstr_of_unknownCell {s : State} {op : Byte} {p : Bool} (hfetch : fetchOpcode s = (op, p))
    (hunknown : unknownCell s.cfg.table op p) : fetchInstr s = if p then .prefixCB op else .unknown op := by
  rw [fetchInstr, hfetch]
  exact hunknown

/-- The operation of an unknown cell is the exception, in either table (R113). -/
theorem runKind_of_unknownCell {s : State} {op : Byte} {p : Bool} (h : unknownCell s.cfg.table op p) :
    runKind (if p then Instr.prefixCB op else .unknown op).kind s = raiseIllegal op p s := by
  cases p with
  | false => rfl
  | true => exact if_neg (unknownCell_iff_not_assigns.1 h)

/-- The outcome on an unknown cell names the byte, its table and `pc` (R113, R118). -/
theorem reportKind_of_unknownCell {s : State} {op : Byte} {p : Bool} (h : unknownCell s.cfg.table op p) :
    reportKind (if p then Instr.prefixCB op else .unknown op).kind s = .illegalOpcode op p s.pc := by
  cases p with
  | false => rfl
  | true => exact if_neg (unknownCell_iff_not_assigns.1 h)

/-- The step of a running core that fetches an unknown cell is the exception (R113). -/
theorem step_of_unknownCell {s : State} {op : Byte} {p : Bool} (hrun : s.halted = none)
    (hfetch : fetchOpcode s = (op, p)) (hunknown : unknownCell s.cfg.table op p) :
    step s = .next (raiseIllegal op p s) := by
  rw [step_of_running hrun, fetchInstr_of_unknownCell hfetch hunknown, runKind_of_unknownCell hunknown]

theorem stepReport_of_unknownCell {s : State} {op : Byte} {p : Bool} (hrun : s.halted = none)
    (hfetch : fetchOpcode s = (op, p)) (hunknown : unknownCell s.cfg.table op p) :
    stepReport s = .illegalOpcode op p s.pc := by
  rw [stepReport_of_running hrun, fetchInstr_of_unknownCell hfetch hunknown, reportKind_of_unknownCell hunknown]

end Sys2Proof.Machine

namespace Sys2Proof.Proofs

/-- Settles O10: the set latch alone decides the step, its accesses and its outcome. -/
theorem haltedStepIsTheIdentity : Obligations.HaltedStepIsTheIdentity := fun _ _ hhalted =>
  ⟨step_of_halted hhalted, stepAccesses_of_halted hhalted, stepReport_of_halted hhalted⟩

/-- Settles O11: the fetched cell decodes to its table's "unknown", whose operation is to raise the exception. -/
theorem unknownOpcodeLatchesTheHaltRecord : Obligations.UnknownOpcodeLatchesTheHaltRecord :=
  fun _ _ _ hrun hfetch hunknown =>
    ⟨step_of_unknownCell hrun hfetch hunknown, stepReport_of_unknownCell hrun hfetch hunknown⟩

end Sys2Proof.Proofs
end

section
/-! SUPPORT. The addition and the jump of the source in the spec's own arithmetic (spec/41_documented_instructions.md R130,
R133), and the two statements about them. -/

open Sys2Proof Sys2Proof.Machine Sys2Proof.Claims

namespace Sys2Proof.Machine

/-! ## Add -/

theorem addByte_false (a v : Byte) : addByte a v false = BitVec.ofNat 8 (a.toNat + v.toNat) := rfl

/-- The flags of an addition without carry in are the four tests of R130 on numbers. -/
theorem addFlags_false (a v : Byte) :
    addFlags a v false =
      { z := decide ((a.toNat + v.toNat) % 256 = 0)
        n := false
        h := decide (a.toNat % 16 + v.toNat % 16 > 0xF)
        c := decide (a.toNat + v.toNat > 255) } := by
  have hzero : decide ((a.toNat + v.toNat) % 256 = 0) = (addByte a v false == 0) :=
    decide_eq_beq_zero (toNat_addByte a v false)
  rw [hzero]
  rfl

/-- The whole state after R130's addition of a byte. -/
theorem addToA_advance (v : Byte) (s : State) :
    (addToA v s).advance 1 =
      { s with
        a := BitVec.ofNat 8 (s.a.toNat + v.toNat)
        f := { z := decide ((s.a.toNat + v.toNat) % 256 = 0)
               n := false
               h := decide (s.a.toNat % 16 + v.toNat % 16 > 0xF)
               c := decide (s.a.toNat + v.toNat > 255) }
        pc := s.pc + 1 } := by
  rw [addToA, addFlags_false, addByte_false]
  rfl

theorem addImplemented_iff {cfg : Config} {r : Reg8} :
    addImplemented cfg r = true ↔ cfg.profile = .completed ∨ r ∈ cfg.addImpl := by
  simp [addImplemented]

/-- Under `as_built` the selectors that perform the addition are those of `ADD_IMPL` (R130, D3). -/
theorem not_addImplemented_of_asBuilt {cfg : Config} {r : Reg8} (hprofile : cfg.profile = .asBuilt)
    (hr : r ∉ cfg.addImpl) : ¬addImplemented cfg r = true := by
  rw [addImplemented_iff, hprofile]
  exact fun h => h.elim nofun hr

theorem addReg_of_implemented {r : Reg8} {s : State} (h : addImplemented s.cfg r = true) :
    addReg r s = (addToA (s.reg r) s).advance 1 := if_pos h

theorem addReg_of_not_implemented {r : Reg8} {s : State} (h : ¬addImplemented s.cfg r = true) : addReg r s = s :=
  if_neg h

theorem reportKind_addReg_of_not_implemented {r : Reg8} {s : State} (h : ¬addImplemented s.cfg r = true) :
    reportKind (.alu .add (.reg r)) s = .unimplemented (.alu .add (.reg r)) := by
  have hlacks : lacksSemantics s.cfg (.alu .add (.reg r)) = true := by
    rw [lacksSemantics, Bool.eq_false_of_not_eq_true h, Bool.not_false]
  exact if_pos hlacks

/-! ## Jp -/

theorem condHolds_iff_taken {cc : Cond} {s : State} : condHolds cc s.f = true ↔ taken cc s := by
  cases cc <;> simp [condHolds, taken]

theorem State.imm16_eq_nn (s : State) : s.imm16 = nn s := by
  rw [imm16_eq, nn, word_eq_join]

theorem jp_of_taken {cc : Cond} {s : State} (h : taken cc s) : jp cc s = { s with pc := nn s } := by
  rw [jp, if_pos (condHolds_iff_taken.2 h), State.imm16_eq_nn]
  rfl

theorem jp_of_not_taken {cc : Cond} {s : State} (h : ¬taken cc s) : jp cc s = { s with pc := s.pc + 3 } :=
  if_neg (mt condHolds_iff_taken.1 h)

/-- A jump not taken reads no operand byte (R115, R133). -/
theorem kindAccesses_jp_of_not_taken {cc : Cond} {s : State} (h : ¬taken cc s) : kindAccesses (.jp cc) s = [] :=
  if_neg (mt condHolds_iff_taken.1 h)

end Sys2Proof.Machine

namespace Sys2Proof.Proofs

/-- Settles O29: the cell is the addition of its register, which the configuration performs or leaves out. -/
theorem addRegisterToAccumulator : Obligations.AddRegisterToAccumulator := by
  intro t r s ht
  have hkind : (decodeCell t (at8 0x80 r.index) false).kind = .alu .add (.reg r) := kind_addReg ht r
  have hexec : exec (decodeCell t (at8 0x80 r.index) false) s = .next (addReg r s) := exec_of_kind hkind s
  rw [hexec, hkind]
  constructor
  · intro himpl
    rw [addReg_of_implemented (addImplemented_iff.2 himpl), addToA_advance]
  · intro hprofile hr
    have hnot := not_addImplemented_of_asBuilt hprofile hr
    exact ⟨by rw [addReg_of_not_implemented hnot], reportKind_addReg_of_not_implemented hnot⟩

/-- Settles O32: the cell is the jump on its condition, and the condition alone chooses between operand and next pc. -/
theorem jumpToAbsoluteAddress : Obligations.JumpToAbsoluteAddress := by
  intro t cc s ht
  have hkind := kind_jp ht cc
  have hexec : exec (decodeCell t (cc.byte 0xC2 0xC3) false) s = .next (jp cc s) := exec_of_kind hkind s
  rw [hexec, hkind]
  exact ⟨fun h => by rw [jp_of_taken h], fun h => by rw [jp_of_not_taken h], kindAccesses_jp_of_not_taken⟩

end Sys2Proof.Proofs
end

section
/-! SUPPORT. The 8-bit loads and stores in the spec's own arithmetic (spec/42_ext_loads_8bit.md R150 to R167): one law per
operation that gives its whole next state, and the five statements about them. -/

open Sys2Proof Sys2Proof.Machine Sys2Proof.Claims

namespace Sys2Proof.Machine

/-! ## Addresses and the commit of pc -/

theorem State.hl_eq_word (s : State) : s.hl = word s.h s.l := (word_eq_join _ _).symm

theorem State.imm8_eq_n8 (s : State) : s.imm8 = n8 s := rfl

/-- A register write leaves `pc` alone, so the commit counts from the `pc` before it (R116). -/
theorem State.advance_setReg (s : State) (r : Reg8) (v : Byte) (n : Word) :
    (s.setReg r v).advance n = { s.setReg r v with pc := s.pc + n } := by
  rw [State.advance, State.setReg_pc]

/-- An instruction of a kind answers the state that the kind's operation is known to give. -/
theorem exec_eq_next_of_kind {i : Instr} {s t : State} (k : Kind) (hkind : i.kind = k) (hrun : runKind k s = t) :
    exec i s = .next t := by
  rw [exec_of_kind hkind, hrun]

/-! ## Loads of a register -/

theorem ldRegReg_eq (rd rs : Reg8) (s : State) : ldRegReg rd rs s = { s.setReg rd (s.reg rs) with pc := s.pc + 1 } :=
  s.advance_setReg rd _ 1

/-- The address is HL before the write, also when the register is H or L (R151). -/
theorem ldRegMemHl_eq (r : Reg8) (s : State) :
    ldRegMemHl r s = { s.setReg r (s.load8 (word s.h s.l)) with pc := s.pc + 1 } := by
  rw [ldRegMemHl, State.advance_setReg, State.hl_eq_word]

theorem ldRegImm_eq (r : Reg8) (s : State) : ldRegImm r s = { s.setReg r (n8 s) with pc := s.pc + 2 } := by
  rw [ldRegImm, State.advance_setReg, State.imm8_eq_n8]

/-! ## Stores at HL -/

theorem ldMemHlReg_eq (r : Reg8) (s : State) :
    ldMemHlReg r s = { s.store8 (word s.h s.l) (s.reg r) with pc := s.pc + 1 } := by
  rw [ldMemHlReg, State.hl_eq_word]
  rfl

theorem ldMemHlImm_eq (s : State) : ldMemHlImm s = { s.store8 (word s.h s.l) (n8 s) with pc := s.pc + 2 } := by
  rw [ldMemHlImm, State.hl_eq_word]
  rfl

/-! ## Loads of A -/

theorem ldAMemPair_bc_eq (s : State) :
    ldAMemPair .bc s = { s with a := s.load8 (word s.b s.c), pc := s.pc + 1 } := by
  rw [word_eq_join]
  rfl

theorem ldAMemPair_de_eq (s : State) :
    ldAMemPair .de s = { s with a := s.load8 (word s.d s.e), pc := s.pc + 1 } := by
  rw [word_eq_join]
  rfl

theorem ldAMemNn_eq (s : State) : ldAMemNn s = { s with a := s.load8 (nn s), pc := s.pc + 3 } := by
  rw [ldAMemNn, State.imm16_eq_nn]
  rfl

theorem ldhAMemN_eq (s : State) :
    ldhAMemN s = { s with a := s.load8 (BitVec.ofNat 16 (0xFF00 + (n8 s).toNat)), pc := s.pc + 2 } := by
  rw [ldhAMemN, pageAddr_eq_ofNat]
  rfl

theorem ldAMemC_eq (s : State) :
    ldAMemC s = { s with a := s.load8 (BitVec.ofNat 16 (0xFF00 + s.c.toNat)), pc := s.pc + 1 } := by
  rw [ldAMemC, pageAddr_eq_ofNat]
  rfl

/-! ## Stores of A -/

theorem ldMemPairA_de_eq (s : State) :
    ldMemPairA .de s = { s.store8 (word s.d s.e) s.a with pc := s.pc + 1 } := by
  rw [word_eq_join]
  rfl

theorem ldMemNnA_eq (s : State) : ldMemNnA s = { s.store8 (nn s) s.a with pc := s.pc + 3 } := by
  rw [ldMemNnA, State.imm16_eq_nn]
  rfl

theorem ldhMemNA_eq (s : State) :
    ldhMemNA s = { s.store8 (BitVec.ofNat 16 (0xFF00 + (n8 s).toNat)) s.a with pc := s.pc + 2 } := by
  rw [ldhMemNA, pageAddr_eq_ofNat]
  rfl

theorem ldMemCA_eq (s : State) :
    ldMemCA s = { s.store8 (BitVec.ofNat 16 (0xFF00 + s.c.toNat)) s.a with pc := s.pc + 1 } := by
  rw [ldMemCA, pageAddr_eq_ofNat]
  rfl

/-! ## Accesses at HL that move HL -/

theorem ldMemHliA_eq (s : State) :
    ldMemHliA s = { (s.store8 (word s.h s.l) s.a).setPair .hl (word s.h s.l + 1) with pc := s.pc + 1 } := by
  rw [ldMemHliA, State.hl_eq_word]
  rfl

theorem ldAMemHli_eq (s : State) :
    ldAMemHli s = { s.setPair .hl (word s.h s.l + 1) with a := s.load8 (word s.h s.l), pc := s.pc + 1 } := by
  rw [ldAMemHli, State.hl_eq_word]
  rfl

theorem ldMemHldA_eq (s : State) :
    ldMemHldA s = { (s.store8 (word s.h s.l) s.a).setPair .hl (word s.h s.l - 1) with pc := s.pc + 1 } := by
  rw [ldMemHldA, State.hl_eq_word]
  rfl

theorem ldAMemHld_eq (s : State) :
    ldAMemHld s = { s.setPair .hl (word s.h s.l - 1) with a := s.load8 (word s.h s.l), pc := s.pc + 1 } := by
  rw [ldAMemHld, State.hl_eq_word]
  rfl

end Sys2Proof.Machine

namespace Sys2Proof.Proofs

/-- Settles O33: each cell is the load of its selectors, and a register write leaves `pc` to the commit. -/
theorem loadsOfARegister : Obligations.LoadsOfARegister := fun rd rs s =>
  ⟨exec_eq_next_of_kind (.ldRegReg rd rs) (kind_ldRegReg rd rs) (ldRegReg_eq rd rs s),
    exec_eq_next_of_kind (.ldRegMemHl rd) (kind_ldRegMemHl rd) (ldRegMemHl_eq rd s),
    exec_eq_next_of_kind (.ldRegImm rd) (kind_ldRegImm rd) (ldRegImm_eq rd s)⟩

/-- Settles O34: each cell is the store of its source, at HL as a number. -/
theorem storesAtHl : Obligations.StoresAtHl := fun r s =>
  ⟨exec_eq_next_of_kind (.ldMemHlReg r) (kind_ldMemHlReg r) (ldMemHlReg_eq r s),
    exec_eq_next_of_kind .ldMemHlImm rfl (ldMemHlImm_eq s)⟩

/-- Settles O35: each cell is the load of A from its address, the model's address being the spec's number. -/
theorem loadsOfTheAccumulator : Obligations.LoadsOfTheAccumulator := fun s =>
  ⟨exec_eq_next_of_kind .ldAMemBc rfl (ldAMemPair_bc_eq s),
    exec_eq_next_of_kind .ldAMemDe rfl (ldAMemPair_de_eq s),
    exec_eq_next_of_kind .ldAMemNn rfl (ldAMemNn_eq s),
    exec_eq_next_of_kind .ldhAMemN rfl (ldhAMemN_eq s),
    exec_eq_next_of_kind .ldAMemC rfl (ldAMemC_eq s)⟩

/-- Settles O36: each cell is the store of A at its address, the model's address being the spec's number. -/
theorem storesOfTheAccumulator : Obligations.StoresOfTheAccumulator := fun s =>
  ⟨exec_eq_next_of_kind .ldMemDeA rfl (ldMemPairA_de_eq s),
    exec_eq_next_of_kind .ldMemNnA rfl (ldMemNnA_eq s),
    exec_eq_next_of_kind .ldhMemNA rfl (ldhMemNA_eq s),
    exec_eq_next_of_kind .ldMemCA rfl (ldMemCA_eq s)⟩

/-- Settles O37: each cell accesses memory at HL before the pair write, which touches neither `a` nor memory. -/
theorem accessesAtHlThatMoveHl : Obligations.AccessesAtHlThatMoveHl := fun s =>
  ⟨exec_eq_next_of_kind .ldMemHliA rfl (ldMemHliA_eq s),
    exec_eq_next_of_kind .ldAMemHli rfl (ldAMemHli_eq s),
    exec_eq_next_of_kind .ldMemHldA rfl (ldMemHldA_eq s),
    exec_eq_next_of_kind .ldAMemHld rfl (ldAMemHld_eq s)⟩

end Sys2Proof.Proofs
end

section
/-! SUPPORT. The 16-bit loads and the stack in the spec's own arithmetic (spec/43_ext_loads_16bit_stack.md R180 to R185, and
R232 of spec/45_ext_alu_16bit.md): one law per operation that gives its whole next state, and the four statements about
them. -/

open Sys2Proof Sys2Proof.Machine Sys2Proof.Claims

namespace Sys2Proof.Machine

/-! ## Pair writes -/

/-- A pair write leaves `pc` alone, so the commit counts from the `pc` before it (R116). -/
theorem State.advance_setPair (s : State) (rr : Reg16) (v n : Word) :
    (s.setPair rr v).advance n = { s.setPair rr v with pc := s.pc + n } := by
  rw [State.advance, State.setPair_pc]

/-- No pair of PUSH and POP is `sp`, so a pop's two writes commute (R185). -/
theorem State.setPair_drop16 (p : Rp2) (s : State) (v : Word) :
    s.drop16.setPair p.toReg16 v = { s.setPair p.toReg16 v with sp := s.sp + 2 } := by
  cases p <;> rfl

/-! ## 16-bit loads -/

theorem ldPairImm_eq (p : Rp) (s : State) : ldPairImm p s = { s.setPair p.toReg16 (nn s) with pc := s.pc + 3 } := by
  rw [ldPairImm, State.advance_setPair, State.imm16_eq_nn]

theorem ldMemNnSp_eq (s : State) :
    ldMemNnSp s =
      { (s.store8 (nn s) (BitVec.ofNat 8 s.sp.toNat)).store8 (nn s + 1) (BitVec.ofNat 8 (s.sp.toNat / 256)) with
        pc := s.pc + 3 } := by
  rw [ldMemNnSp, State.store16, State.imm16_eq_nn, lo8_eq_ofNat, hi8_eq_ofNat]
  rfl

theorem ldSpHl_eq (s : State) : ldSpHl s = { s with sp := word s.h s.l, pc := s.pc + 1 } := by
  rw [ldSpHl, State.hl_eq_word]
  rfl

/-! ## The stack pointer plus a displacement -/

theorem sext16_eq_disp (d : Byte) : sext16 d = disp d := by
  rw [sext16_eq, disp, apply_ite (BitVec.ofNat 16)]

theorem spDispFlags_eq_lowByteFlags (sp : Word) (d : Byte) : spDispFlags sp d = lowByteFlags sp d := rfl

theorem ldHlSpDisp_eq (s : State) :
    ldHlSpDisp s =
      { s.setPair .hl (s.sp + disp (n8 s)) with f := lowByteFlags s.sp (n8 s), pc := s.pc + 2 } := by
  rw [ldHlSpDisp, State.imm8_eq_n8, sext16_eq_disp, spDispFlags_eq_lowByteFlags]
  rfl

theorem addSpDisp_eq (s : State) :
    addSpDisp s = { s with sp := s.sp + disp (n8 s), f := lowByteFlags s.sp (n8 s), pc := s.pc + 2 } := by
  rw [addSpDisp, State.imm8_eq_n8, sext16_eq_disp, spDispFlags_eq_lowByteFlags]
  rfl

/-! ## The stack -/

/-- A push in the arithmetic of R184: quotient by 256 at `sp - 1`, remainder at `sp - 2`. -/
theorem State.push16_eq_ofNat (s : State) (v : Word) :
    s.push16 v =
      { (s.store8 (s.sp - 1) (BitVec.ofNat 8 (v.toNat / 256))).store8 (s.sp - 2) (BitVec.ofNat 8 v.toNat) with
        sp := s.sp - 2 } := by
  rw [State.push16, hi8_eq_ofNat, lo8_eq_ofNat]

theorem push_eq (p : Rp2) (s : State) :
    push p s =
      { (s.store8 (s.sp - 1) (BitVec.ofNat 8 ((s.pair p.toReg16).toNat / 256))).store8 (s.sp - 2)
          (BitVec.ofNat 8 (s.pair p.toReg16).toNat) with
        sp := s.sp - 2
        pc := s.pc + 1 } := by
  rw [push, State.push16_eq_ofNat]
  rfl

theorem pop_eq (p : Rp2) (s : State) :
    pop p s =
      { s.setPair p.toReg16 (word (s.load8 (s.sp + 1)) (s.load8 s.sp)) with sp := s.sp + 2, pc := s.pc + 1 } := by
  rw [pop, State.advance_setPair, State.setPair_drop16, State.top16, State.load16_eq_word, State.drop16_pc]

end Sys2Proof.Machine

namespace Sys2Proof.Proofs

/-- Settles O38: each cell is its load, the model's immediate and HL being the spec's words and `sp` stored by halves. -/
theorem sixteenBitLoadsAndStoreOfSp : Obligations.SixteenBitLoadsAndStoreOfSp := fun p s =>
  ⟨exec_eq_next_of_kind (.ldPairImm p) (kind_ldPairImm p) (ldPairImm_eq p s),
    exec_eq_next_of_kind .ldMemNnSp rfl (ldMemNnSp_eq s),
    exec_eq_next_of_kind .ldSpHl rfl (ldSpHl_eq s)⟩

/-- Settles O39: both cells add the sign extension of R10 to `sp` and take the flags of the low bytes' addition. -/
theorem stackPointerPlusDisplacement : Obligations.StackPointerPlusDisplacement := fun s =>
  ⟨exec_eq_next_of_kind .ldHlSpDisp rfl (ldHlSpDisp_eq s),
    exec_eq_next_of_kind .addSpDisp rfl (addSpDisp_eq s)⟩

/-- Settles O40: each cell is the push of its pair, split by 256. -/
theorem pushOfAPair : Obligations.PushOfAPair := fun p s =>
  exec_eq_next_of_kind (.push p) (kind_push p) (push_eq p s)

/-- Settles O41: each cell is the pop of its pair, which is never `sp` itself. -/
theorem popOfAPair : Obligations.PopOfAPair := fun p s =>
  exec_eq_next_of_kind (.pop p) (kind_pop p) (pop_eq p s)

end Sys2Proof.Proofs
end

section
/-! SUPPORT. The 8-bit arithmetic, logic and compare in the spec's own arithmetic (spec/44_ext_alu_8bit.md R200 to R210): the
cell of each operand form, one law that gives the whole next state of an accumulator operation, the flags on unbounded
integers, and the four statements about them. -/

open Sys2Proof Sys2Proof.Machine Sys2Proof.Claims

namespace Sys2Proof.Machine

/-! ## The operand forms -/

/-- The table of R200 names the byte the encoder writes for each operation and operand form. -/
theorem operandByte_index (op : AluOp) (x : Operand8) : operandByte op.index x = aluByte op x := by cases x <;> rfl

theorem kind_operandByte (op : AluOp) (x : Operand8) : (cell (operandByte op.index x)).kind = .alu op x := by
  rw [operandByte_index]
  exact kind_alu op x

theorem State.operand8_eq_operand (s : State) (x : Operand8) : s.operand8 x = operand x s := by
  cases x with
  | reg r => rfl
  | memHl => exact congrArg s.load8 s.hl_eq_word
  | imm => rfl

theorem operandLen_eq_operandLength (x : Operand8) : operandLen x = operandLength x := by cases x <;> rfl

/-! ## Accumulator operations -/

/-- The whole state after an accumulator operation: A, the flags and `pc` (R200). -/
theorem alu_eq (op : AluOp) (x : Operand8) (s : State) :
    alu op x s =
      { s with
        a := aluByteOf op s.a (operand x s) s.f.c
        f := aluFlags op s.a (operand x s) s.f.c
        pc := s.pc + operandLength x } := by
  rw [alu, State.operand8_eq_operand, operandLen_eq_operandLength]
  rfl

/-- Only the register forms of ADD are the source's Add; every other form is the extension's operation (R200, R201). -/
theorem runKind_alu {op : AluOp} {x : Operand8} (h : op = .add → x = .memHl ∨ x = .imm) (s : State) :
    runKind (.alu op x) s = alu op x s := by
  cases op
  case add => rcases h rfl with rfl | rfl <;> rfl
  all_goals rfl

/-- The cell of an operand form answers the state that its result and its flags are known to give. -/
theorem exec_operandByte {op : AluOp} {x : Operand8} {s : State} {a : Byte} {f : Flags}
    (hform : op = .add → x = .memHl ∨ x = .imm) (ha : aluByteOf op s.a (operand x s) s.f.c = a)
    (hf : aluFlags op s.a (operand x s) s.f.c = f) :
    exec (cell (operandByte op.index x)) s = .next { s with a := a, f := f, pc := s.pc + operandLength x } := by
  rw [exec_of_kind (kind_operandByte op x), runKind_alu hform, alu_eq, ha, hf]

/-! ## Results and flags on integers -/

/-- The flags of an addition with carry in are the four tests of R202 on numbers. -/
theorem addFlags_eq_decide (a v : Byte) (c : Bool) :
    addFlags a v c =
      { z := decide ((a.toNat + v.toNat + c.toNat) % 256 = 0)
        n := false
        h := decide (a.toNat % 16 + v.toNat % 16 + c.toNat > 0xF)
        c := decide (a.toNat + v.toNat + c.toNat > 255) } := by
  have hzero : decide ((a.toNat + v.toNat + c.toNat) % 256 = 0) = (addByte a v c == 0) :=
    decide_eq_beq_zero (toNat_addByte a v c)
  rw [hzero]
  rfl

theorem ofInt_eq_zero_iff (n : Int) : BitVec.ofInt 8 n = 0 ↔ n % 256 = 0 := by
  rw [← BitVec.toNat_inj, BitVec.toNat_ofInt]
  show (n % 256).toNat = 0 ↔ n % 256 = 0
  omega

/-- The flags of a subtraction with borrow in are the four tests of R204 on integers. -/
theorem subFlags_eq_decide (a v : Byte) (c : Bool) :
    subFlags a v c =
      { z := decide (((a.toNat : Int) - v.toNat - c.toNat) % 256 = 0)
        n := true
        h := decide (a.toNat % 16 < v.toNat % 16 + c.toNat)
        c := decide (a.toNat < v.toNat + c.toNat) } := by
  have hzero : (subByte a v c == 0) = decide (((a.toNat : Int) - v.toNat - c.toNat) % 256 = 0) := by
    rw [subByte_eq_ofInt]
    exact decide_eq_decide.2 (ofInt_eq_zero_iff _)
  rw [subFlags, hzero]
  rfl

theorem subByte_false_eq_ofInt (a v : Byte) : subByte a v false = BitVec.ofInt 8 ((a.toNat : Int) - v.toNat) := by
  rw [subByte_eq_ofInt, Bool.toNat_false, Nat.cast_zero, sub_zero]

/-- The flags of a subtraction without borrow in are the four tests of R203 on integers. -/
theorem subFlags_false (a v : Byte) :
    subFlags a v false =
      { z := decide (((a.toNat : Int) - v.toNat) % 256 = 0)
        n := true
        h := decide (a.toNat % 16 < v.toNat % 16)
        c := decide (a.toNat < v.toNat) } := by
  rw [subFlags_eq_decide, Bool.toNat_false, Nat.cast_zero, sub_zero]
  rfl

/-- A comparison sets Z exactly on equal bytes (R208). -/
theorem subFlags_false_eq_compare (a v : Byte) :
    subFlags a v false =
      { z := decide (a = v)
        n := true
        h := decide (a.toNat % 16 < v.toNat % 16)
        c := decide (a.toNat < v.toNat) } := by
  have hzero : (subByte a v false == 0) = decide (a = v) := by
    have hsub : subByte a v false = a - v := BitVec.sub_zero (a - v)
    rw [hsub]
    exact decide_eq_decide.2 sub_eq_zero
  rw [subFlags, hzero]
  rfl

/-! ## INC and DEC -/

theorem State.loc8_eq_value (s : State) (x : Loc8) : s.loc8 x = value x s := by
  cases x with
  | reg r => rfl
  | memHl => exact congrArg s.load8 s.hl_eq_word

/-- Writing the byte of a number to an operand (R209, R260). -/
theorem State.setLoc8_ofNat (s : State) (x : Loc8) (n : Nat) : s.setLoc8 x (BitVec.ofNat 8 n) = written x n s := by
  cases x with
  | reg r => rfl
  | memHl => exact congrArg (s.store8 · (BitVec.ofNat 8 n)) s.hl_eq_word

/-- An operand write leaves `pc` alone, so the commit counts from the `pc` before it (R116). -/
theorem State.advance_setFlags_setLoc8 (s : State) (x : Loc8) (v : Byte) (f : Flags) (n : Word) :
    ((s.setLoc8 x v).setFlags f).advance n = { s.setLoc8 x v with f := f, pc := s.pc + n } := by
  rw [State.advance, State.setFlags_pc, State.setLoc8_pc]
  rfl

/-- One less is 255 more modulo 256 (R210). -/
theorem toNat_sub_one_mod (v : Byte) : (v - 1).toNat = (v.toNat + 255) % 256 := by
  rw [BitVec.toNat_sub, Nat.add_comm]
  rfl

/-- The whole state after INC, the sum on numbers (R209). -/
theorem inc8_eq (x : Loc8) (s : State) :
    inc8 x s =
      { written x ((value x s).toNat + 1) s with
        f := { z := decide (((value x s).toNat + 1) % 256 = 0), n := false
               h := decide ((value x s).toNat % 16 = 0xF), c := s.f.c }
        pc := s.pc + 1 } := by
  have hsum : (value x s + 1).toNat = ((value x s).toNat + 1) % 256 := BitVec.toNat_add _ 1
  rw [inc8, State.advance_setFlags_setLoc8, State.loc8_eq_value, decide_eq_beq_zero hsum, ← State.setLoc8_ofNat,
    ofNat_eq_of_toNat hsum]
  rfl

/-- The whole state after DEC, the difference on numbers (R210). -/
theorem dec8_eq (x : Loc8) (s : State) :
    dec8 x s =
      { written x ((value x s).toNat + 255) s with
        f := { z := decide (((value x s).toNat + 255) % 256 = 0), n := true
               h := decide ((value x s).toNat % 16 = 0x0), c := s.f.c }
        pc := s.pc + 1 } := by
  have hdiff := toNat_sub_one_mod (value x s)
  rw [dec8, State.advance_setFlags_setLoc8, State.loc8_eq_value, decide_eq_beq_zero hdiff, ← State.setLoc8_ofNat,
    ofNat_eq_of_toNat hdiff]
  rfl

end Sys2Proof.Machine

namespace Sys2Proof.Proofs

/-- Settles O43: each cell is its operation, whose sum and flags are the spec's on numbers; ADD takes no carry in. -/
theorem addAndAddWithCarry : Obligations.AddAndAddWithCarry := fun _ _ =>
  ⟨fun hform => exec_operandByte (op := .add) (fun _ => hform) (addByte_false _ _) (addFlags_false _ _),
    exec_operandByte (op := .adc) nofun rfl (addFlags_eq_decide _ _ _)⟩

/-- Settles O44: each cell is its operation, whose difference and flags are the spec's on integers; CP writes A back as it
was. -/
theorem subtractAndCompare : Obligations.SubtractAndCompare := fun _ _ =>
  ⟨exec_operandByte (op := .sub) nofun (subByte_false_eq_ofInt _ _) (subFlags_false _ _),
    exec_operandByte (op := .sbc) nofun (subByte_eq_ofInt _ _ _) (subFlags_eq_decide _ _ _),
    exec_operandByte (op := .cp) nofun rfl (subFlags_false_eq_compare _ _)⟩

/-- Settles O45: each cell is its operation, whose result is the spec's own and whose flags are `logicFlags` of it. -/
theorem logicOperations : Obligations.LogicOperations := fun _ _ =>
  ⟨exec_operandByte (op := .and) nofun rfl rfl, exec_operandByte (op := .xor) nofun rfl rfl,
    exec_operandByte (op := .or) nofun rfl rfl⟩

/-- Settles O46: each cell is the increment or decrement of its operand, written back modulo 256. -/
theorem eightBitIncrementAndDecrement : Obligations.EightBitIncrementAndDecrement := fun x s =>
  ⟨exec_eq_next_of_kind (.inc8 x) (kind_inc8 x) (inc8_eq x s),
    exec_eq_next_of_kind (.dec8 x) (kind_dec8 x) (dec8_eq x s)⟩

end Sys2Proof.Proofs
end

section
/-! SUPPORT. The 16-bit arithmetic in the spec's own arithmetic (spec/45_ext_alu_16bit.md R230, R231): one law per operation
that gives its whole next state, and the statement about them. -/

open Sys2Proof Sys2Proof.Machine Sys2Proof.Claims

namespace Sys2Proof.Machine

/-- One less is 65535 more modulo 65536 (R231). -/
theorem sub_one_eq_ofNat (v : Word) : v - 1 = BitVec.ofNat 16 (v.toNat + 0xFFFF) :=
  calc v - 1
      = v + 0xFFFF := BitVec.sub_eq_add_neg v 1
    _ = BitVec.ofNat 16 (v.toNat + 0xFFFF) := BitVec.add_def v 0xFFFF

/-- The whole state after the addition; the flags are taken from HL and the pair as they were before it (R230). -/
theorem addHl_eq (p : Rp) (s : State) :
    addHl p s =
      { s.setPair .hl (BitVec.ofNat 16 ((word s.h s.l).toNat + (s.pair p.toReg16).toNat)) with
        f := { z := s.f.z
               n := false
               h := decide ((word s.h s.l).toNat % 4096 + (s.pair p.toReg16).toNat % 4096 > 0x0FFF)
               c := decide ((word s.h s.l).toNat + (s.pair p.toReg16).toNat > 0xFFFF) }
        pc := s.pc + 1 } := by
  rw [addHl, addHlFlags, State.hl_eq_word, BitVec.add_def]
  rfl

/-- The whole state after the decrement (R231). -/
theorem decPair_eq (p : Rp) (s : State) :
    decPair p s =
      { s.setPair p.toReg16 (BitVec.ofNat 16 ((s.pair p.toReg16).toNat + 0xFFFF)) with pc := s.pc + 1 } := by
  rw [decPair, State.advance_setPair, sub_one_eq_ofNat]

end Sys2Proof.Machine

namespace Sys2Proof.Proofs

/-- Settles O47: each cell is the addition to HL or the decrement of its pair, on numbers modulo 65536. -/
theorem sixteenBitAddAndDecrement : Obligations.SixteenBitAddAndDecrement := fun p s =>
  ⟨exec_eq_next_of_kind (.addHl p) (kind_addHl p) (addHl_eq p s),
    exec_eq_next_of_kind (.dec16 p) (kind_dec16 p) (decPair_eq p s)⟩

end Sys2Proof.Proofs
end

section
/-! SUPPORT. The accumulator rotates and the flag operations in the spec's own arithmetic (spec/46_ext_rotates_misc.md R240
to R244 and R246 to R248): every rotate and shift as a number, one law per operation that gives its whole next state, and
the two statements about them. -/

open Sys2Proof Sys2Proof.Machine Sys2Proof.Claims

namespace Sys2Proof.Machine

/-! ## Rotates and shifts on numbers -/

theorem toNat_bitByte (b : Bool) : (bitByte b).toNat = b.toNat := by cases b <;> rfl

/-- Bit `i` of a byte as a number. -/
theorem toNat_getLsbD (v : Byte) (i : Nat) : (v.getLsbD i).toNat = v.toNat / 2 ^ i % 2 := Nat.toNat_testBit v.toNat i

theorem toNat_shiftLeft_eq_mul (v : Byte) (k : Nat) : (v <<< k).toNat = v.toNat * 2 ^ k % 256 := by
  rw [BitVec.toNat_shiftLeft, Nat.shiftLeft_eq]

theorem toNat_shiftRight_eq_div (v : Byte) (k : Nat) : (v >>> k).toNat = v.toNat / 2 ^ k := by
  rw [BitVec.toNat_ushiftRight, Nat.shiftRight_eq_div_pow]

/-- A byte shifted left leaves its low bits free: what is put there adds to it. -/
theorem toNat_shiftLeft_or {k : Nat} (hk : k ≤ 8) (x : Byte) {y : Byte} (hy : y.toNat < 2 ^ k) :
    (x <<< k ||| y).toNat = x.toNat * 2 ^ k % 256 + y.toNat := by
  have hmul : x.toNat * 2 ^ k % 256 = 2 ^ k * (x.toNat % 2 ^ (8 - k)) := by
    rw [← Nat.mul_mod_mul_left, ← pow_add, Nat.add_sub_cancel' hk, Nat.mul_comm]
    rfl
  rw [BitVec.toNat_or, toNat_shiftLeft_eq_mul, hmul, Nat.two_pow_add_eq_or_of_lt hy]

/-- A bit put in from the right. -/
theorem toNat_shiftLeft_or_bitByte (v : Byte) (b : Bool) :
    (v <<< 1 ||| bitByte b).toNat = v.toNat * 2 % 256 + b.toNat := by
  have hbit : (bitByte b).toNat < 2 ^ 1 := toNat_bitByte b ▸ b.toNat_lt
  rw [toNat_shiftLeft_or (by decide) v hbit, toNat_bitByte, pow_one]

/-- A bit put in from the left. -/
theorem toNat_shiftRight_or_bitByte (v : Byte) (b : Bool) :
    (v >>> 1 ||| bitByte b <<< 7).toNat = v.toNat / 2 + b.toNat * 128 := by
  have hlow : (v >>> 1).toNat < 2 ^ 7 := by
    rw [toNat_shiftRight_eq_div]
    omega
  have hbit : b.toNat < 2 := b.toNat_lt
  rw [BitVec.or_comm, toNat_shiftLeft_or (by decide) _ hlow, toNat_shiftRight_eq_div, toNat_bitByte]
  omega

/-- The sign bit in place is the sign bit put in from the left (R266). -/
theorem and_0x80_eq (v : Byte) : v &&& (0x80 : Byte) = bitByte (v.getLsbD 7) <<< 7 := by
  revert v
  decide

/-- Every rotate and shift gives the number the spec writes for it (R132, R241 to R244, R262 to R268). -/
theorem toNat_rotByte (op : RotOp) (v : Byte) (c : Bool) : (rotByte op v c).toNat = rotated op v.toNat c.toNat := by
  cases op with
  | rlc =>
    rw [rotByte, rotated, toNat_shiftLeft_or_bitByte, toNat_getLsbD]
    omega
  | rrc => rw [rotByte, rotated, toNat_shiftRight_or_bitByte, toNat_getLsbD, pow_zero, Nat.div_one]
  | rl => exact toNat_shiftLeft_or_bitByte v c
  | rr => exact toNat_shiftRight_or_bitByte v c
  | sla => exact toNat_shiftLeft_eq_mul v 1
  | sra =>
    rw [rotByte, rotated, and_0x80_eq, toNat_shiftRight_or_bitByte, toNat_getLsbD]
    omega
  | swap =>
    have hhigh : (v >>> 4).toNat = v.toNat / 16 := toNat_shiftRight_eq_div v 4
    rw [rotByte, toNat_shiftLeft_or (by decide) v (by omega), hhigh]
    rfl
  | srl => exact toNat_shiftRight_eq_div v 1

theorem rotByte_eq_ofNat (op : RotOp) (v : Byte) (c : Bool) :
    rotByte op v c = BitVec.ofNat 8 (rotated op v.toNat c.toNat) := by
  rw [← toNat_rotByte, BitVec.ofNat_toNat, BitVec.setWidth_eq]

theorem getLsbD_seven_eq_decide (v : Byte) : v.getLsbD 7 = decide (v.toNat ≥ 128) := by
  rw [getLsbD_eq_decide]
  exact decide_eq_decide.2 (by omega)

theorem getLsbD_zero_eq_decide (v : Byte) : v.getLsbD 0 = decide (v.toNat % 2 = 1) := by
  rw [getLsbD_eq_decide, pow_zero, Nat.div_one]

/-- The carry of every rotate and shift is the bit that left the byte. -/
theorem rotCarry_eq_movedOut (op : RotOp) (v : Byte) : rotCarry op v = movedOut op v.toNat := by
  cases op with
  | rlc | rl | sla => exact getLsbD_seven_eq_decide v
  | rrc | rr | sra | srl => exact getLsbD_zero_eq_decide v
  | swap => rfl

/-! ## The whole next states -/

/-- The whole state after an accumulator rotate; Z is cleared whatever the result (R241 to R244). -/
theorem rotA_eq (op : RotOp) (s : State) :
    rotA op s =
      { s with
        a := BitVec.ofNat 8 (rotated op s.a.toNat s.f.c.toNat)
        f := ⟨false, false, false, movedOut op s.a.toNat⟩
        pc := s.pc + 1 } := by
  rw [rotA, rotAFlags, rotByte_eq_ofNat, rotCarry_eq_movedOut]
  rfl

/-- The complement of a byte is what is missing to 255 (R246). -/
theorem not_eq_ofNat (v : Byte) : ~~~v = BitVec.ofNat 8 (255 - v.toNat) := by
  have hnot : (~~~v).toNat = 255 - v.toNat := BitVec.toNat_not
  rw [← hnot, BitVec.ofNat_toNat, BitVec.setWidth_eq]

theorem cpl_eq (s : State) :
    cpl s =
      { s with a := BitVec.ofNat 8 (255 - s.a.toNat), f := ⟨s.f.z, true, true, s.f.c⟩, pc := s.pc + 1 } := by
  rw [cpl, not_eq_ofNat]
  rfl

theorem scf_eq (s : State) : scf s = { s with f := ⟨s.f.z, false, false, true⟩, pc := s.pc + 1 } := rfl

theorem ccf_eq (s : State) : ccf s = { s with f := ⟨s.f.z, false, false, !s.f.c⟩, pc := s.pc + 1 } := rfl

end Sys2Proof.Machine

namespace Sys2Proof.Proofs

/-- Settles O48: each cell is its operation, none of which writes Z; only CPL writes A. -/
theorem nopAndFlagOperations : Obligations.NopAndFlagOperations := fun s =>
  ⟨exec_eq_next_of_kind .nop rfl rfl,
    exec_eq_next_of_kind .cpl rfl (cpl_eq s),
    exec_eq_next_of_kind .scf rfl (scf_eq s),
    exec_eq_next_of_kind .ccf rfl (ccf_eq s)⟩

/-- Settles O49: each cell is the accumulator rotate of its direction and carry, whose result and carry are the spec's
numbers. -/
theorem accumulatorRotates : Obligations.AccumulatorRotates := fun s =>
  ⟨exec_eq_next_of_kind .rlca rfl (rotA_eq .rlc s),
    exec_eq_next_of_kind .rrca rfl (rotA_eq .rrc s),
    exec_eq_next_of_kind .rla rfl (rotA_eq .rl s),
    exec_eq_next_of_kind .rra rfl (rotA_eq .rr s)⟩

end Sys2Proof.Proofs
end

section
/-! SUPPORT. The prefixed operations in the spec's own arithmetic (spec/47_ext_cb_prefixed.md R260 to R271): a byte with one
bit cleared or set as a number, one law per operation that gives its whole next state, and the two statements about them. -/

open Sys2Proof Sys2Proof.Machine Sys2Proof.Claims

namespace Sys2Proof.Machine

/-! ## One bit of a byte on numbers -/

/-- Bytes without a common bit are joined by adding them. -/
theorem toNat_or_of_and_eq_zero {x y : Byte} (h : x &&& y = 0) : (x ||| y).toNat = x.toNat + y.toNat := by
  rw [← BitVec.add_eq_or_of_and_eq_zero x y h, BitVec.toNat_add_of_and_eq_zero h]

/-- The mask `1 << b` of R270 and R271 loses nothing at 8 bits. -/
theorem toNat_one_shiftLeft (b : Fin 8) : ((1 : Byte) <<< b.val).toNat = 2 ^ b.val := by
  revert b
  decide

/-- What the mask keeps of a byte is the value of that bit. -/
theorem toNat_and_one_shiftLeft (v : Byte) (b : Fin 8) :
    (v &&& (1 : Byte) <<< b.val).toNat = v.toNat / 2 ^ b.val % 2 * 2 ^ b.val := by
  rw [BitVec.toNat_and, toNat_one_shiftLeft, Nat.and_two_pow, Nat.toNat_testBit]

theorem clearBit_and_one_shiftLeft (v : Byte) (b : Fin 8) : clearBit v b &&& (1 : Byte) <<< b.val = 0 := by
  rw [clearBit, BitVec.and_assoc, BitVec.and_comm (~~~_), BitVec.and_not_self]
  exact BitVec.and_zero

/-- A byte is its other bits joined with the bit itself. -/
theorem clearBit_or_and_one_shiftLeft (v : Byte) (b : Fin 8) :
    clearBit v b ||| (v &&& (1 : Byte) <<< b.val) = v := by
  rw [clearBit, ← BitVec.and_or_distrib_left, BitVec.or_comm, BitVec.or_not_self, BitVec.and_allOnes]

/-- Setting a bit is putting it into the byte with that bit cleared. -/
theorem assertBit_eq_clearBit_or (v : Byte) (b : Fin 8) : assertBit v b = clearBit v b ||| (1 : Byte) <<< b.val := by
  rw [assertBit, clearBit]
  ext i
  simp only [BitVec.getElem_or, BitVec.getElem_and, BitVec.getElem_not, Bool.or_and_distrib_right, Bool.not_or_self,
    Bool.and_true]

/-- The cleared bit and its value make up the byte. -/
theorem toNat_clearBit_add (v : Byte) (b : Fin 8) :
    (clearBit v b).toNat + v.toNat / 2 ^ b.val % 2 * 2 ^ b.val = v.toNat := by
  have hdisjoint : clearBit v b &&& (v &&& (1 : Byte) <<< b.val) = 0 := by
    rw [BitVec.and_comm v, ← BitVec.and_assoc, clearBit_and_one_shiftLeft]
    exact BitVec.zero_and
  calc (clearBit v b).toNat + v.toNat / 2 ^ b.val % 2 * 2 ^ b.val
      = (clearBit v b ||| (v &&& (1 : Byte) <<< b.val)).toNat := by
        rw [toNat_or_of_and_eq_zero hdisjoint, toNat_and_one_shiftLeft]
    _ = v.toNat := by rw [clearBit_or_and_one_shiftLeft]

/-- Clearing a bit takes its value off the byte (R270). -/
theorem toNat_clearBit (v : Byte) (b : Fin 8) :
    (clearBit v b).toNat = v.toNat - v.toNat / 2 ^ b.val % 2 * 2 ^ b.val :=
  Nat.eq_sub_of_add_eq (toNat_clearBit_add v b)

/-- Setting a bit adds its value where the bit was 0 (R271). -/
theorem toNat_assertBit (v : Byte) (b : Fin 8) :
    (assertBit v b).toNat = v.toNat + (1 - v.toNat / 2 ^ b.val % 2) * 2 ^ b.val := by
  have hclear := toNat_clearBit_add v b
  have hset : (assertBit v b).toNat = (clearBit v b).toNat + 2 ^ b.val := by
    rw [assertBit_eq_clearBit_or, toNat_or_of_and_eq_zero (clearBit_and_one_shiftLeft v b), toNat_one_shiftLeft]
  rcases Nat.mod_two_eq_zero_or_one (v.toNat / 2 ^ b.val) with hbit | hbit
  all_goals
    rw [hbit] at hclear ⊢
    omega

/-- The test of one bit as R269 writes it. -/
theorem not_getLsbD_eq_decide (v : Byte) (i : Nat) : (!v.getLsbD i) = decide (v.toNat / 2 ^ i % 2 = 0) := by
  rw [getLsbD_eq_decide, ← decide_not]
  exact decide_eq_decide.2 Nat.mod_two_ne_one

/-! ## The whole next states -/

/-- A byte known as a number, written to an operand (R260). -/
theorem State.setLoc8_eq_written (s : State) (x : Loc8) {v : Byte} {n : Nat} (h : v.toNat = n) :
    s.setLoc8 x v = written x n s := by
  rw [← State.setLoc8_ofNat, ← h, BitVec.ofNat_toNat, BitVec.setWidth_eq]

theorem State.advance_setLoc8 (s : State) (x : Loc8) (v : Byte) (n : Word) :
    (s.setLoc8 x v).advance n = { s.setLoc8 x v with pc := s.pc + n } := by
  rw [State.advance, State.setLoc8_pc]

/-- The flags of a rotate or shift, Z from the number the spec writes for the result (R261 to R268). -/
theorem rotFlags_eq_decide (op : RotOp) (v : Byte) (c : Bool) :
    rotFlags op v c =
      { z := decide (rotated op v.toNat c.toNat = 0), n := false, h := false, c := movedOut op v.toNat } := by
  have hzero : (rotByte op v c == 0) = decide (rotated op v.toNat c.toNat = 0) := by
    rw [← toNat_rotByte]
    exact decide_eq_decide.2 BitVec.toNat_inj.symm
  rw [rotFlags, hzero, rotCarry_eq_movedOut]

/-- The whole state after a prefixed rotate or shift (R261 to R268). -/
theorem rotate_eq (op : RotOp) (x : Loc8) (s : State) :
    rotate op x s =
      { written x (rotated op (value x s).toNat s.f.c.toNat) s with
        f := { z := decide (rotated op (value x s).toNat s.f.c.toNat = 0), n := false, h := false
               c := movedOut op (value x s).toNat }
        pc := s.pc + 2 } := by
  rw [rotate, State.advance_setFlags_setLoc8, State.loc8_eq_value, State.setLoc8_eq_written s x (toNat_rotByte _ _ _),
    rotFlags_eq_decide]

/-- The whole state after BIT, which writes nothing back (R269). -/
theorem bitTest_eq (b : Fin 8) (x : Loc8) (s : State) :
    bitTest b x s =
      { s with
        f := { z := decide ((value x s).toNat / 2 ^ b.val % 2 = 0), n := false, h := true, c := s.f.c }
        pc := s.pc + 2 } := by
  rw [bitTest, bitFlags, State.loc8_eq_value, not_getLsbD_eq_decide]
  rfl

/-- The whole state after RES, which writes no flag (R270). -/
theorem bitRes_eq (b : Fin 8) (x : Loc8) (s : State) :
    bitRes b x s =
      { written x ((value x s).toNat - (value x s).toNat / 2 ^ b.val % 2 * 2 ^ b.val) s with pc := s.pc + 2 } := by
  rw [bitRes, State.advance_setLoc8, State.loc8_eq_value, State.setLoc8_eq_written s x (toNat_clearBit _ _)]

/-- The whole state after SET, which writes no flag (R271). -/
theorem bitSet_eq (b : Fin 8) (x : Loc8) (s : State) :
    bitSet b x s =
      { written x ((value x s).toNat + (1 - (value x s).toNat / 2 ^ b.val % 2) * 2 ^ b.val) s with pc := s.pc + 2 } := by
  rw [bitSet, State.advance_setLoc8, State.loc8_eq_value, State.setLoc8_eq_written s x (toNat_assertBit _ _)]

/-! ## The prefixed cells -/

/-- Only the register forms of RLC are the source's Rlc; every other form is the extension's operation (R132, R261). -/
theorem runCb_rot {op : RotOp} {x : Loc8} (h : op = .rlc → x = .memHl) (s : State) :
    runCb (.rot op) x s = rotate op x s := by
  cases op
  case rlc => rw [h rfl]; rfl
  all_goals rfl

/-- A second byte written as one sum names the same cell as the encoder's (R94, R260). -/
theorem kind_cbCell_of_eq {op : CbOp} {x : Loc8} {op2 : Byte} (h : op2 = cbByte op x) : (cbCell op2).kind = .cb op x := by
  rw [h]
  exact kind_cb op x

theorem at8_add (base m n : Nat) : at8 base (m + n) = BitVec.ofNat 8 (base + m + n) := by
  rw [at8, Nat.add_assoc]

end Sys2Proof.Machine

namespace Sys2Proof.Proofs

/-- Settles O52: each cell is the rotate or shift of its operand, whose result and carry are the spec's numbers. -/
theorem prefixedRotatesAndShifts : Obligations.PrefixedRotatesAndShifts := fun op x s hmemHl =>
  exec_eq_next_of_kind (.cb (.rot op) x) (kind_cb (.rot op) x) ((runCb_rot hmemHl s).trans (rotate_eq op x s))

/-- Settles O53: each cell is the operation on one bit of its operand, whose value is the spec's number. -/
theorem bitResetAndSet : Obligations.BitResetAndSet := fun b x s =>
  ⟨exec_eq_next_of_kind (.cb (.bit b) x) (kind_cbCell_of_eq (at8_add _ _ _)) (bitTest_eq b x s),
    exec_eq_next_of_kind (.cb (.res b) x) (kind_cbCell_of_eq (at8_add _ _ _)) (bitRes_eq b x s),
    exec_eq_next_of_kind (.cb (.set b) x) (kind_cbCell_of_eq (at8_add _ _ _)) (bitSet_eq b x s)⟩

end Sys2Proof.Proofs
end

section
/-! SUPPORT. The decoder against the encoder (spec/30_encoding.md R80, R87, R89, R91 to R96, R101): the opcode bytes of
a cell, the cell of every well-formed instruction, and the four statements about them. -/

open Sys2Proof Sys2Proof.Machine Sys2Proof.Claims

namespace Sys2Proof

/-! ## Instructions apart from the decoder's answers "unknown" -/

/-- A kind of an assigned cell: neither of the terms that stand for the decoder's "unknown" (log 5, log 6). -/
def Kind.isInstruction : Kind → Bool
  | .unknown _ => false
  | .marker _ => false
  | _ => true

/-- An instruction is one of the two "unknown" terms or has a kind of its own. -/
theorem Instr.unknown_or_isInstruction (i : Instr) :
    (∃ op, i = .unknown op) ∨ (∃ op, i = .prefixCB op) ∨ i.kind.isInstruction = true := by
  cases i
  case unknown op => exact .inl ⟨op, rfl⟩
  case prefixCB op => exact .inr (.inl ⟨op, rfl⟩)
  all_goals exact .inr (.inr rfl)

theorem isInstruction_kind_gridCell {op : Byte} {p : Bool} (h : Table.tFull.assigns op p = true) :
    (gridCell op p).kind.isInstruction = true := by
  cases p with
  | true => rw [kind_markedCell]; rfl
  | false => revert op; decide +kernel

theorem decodeCell_of_not_assigns {t : Table} {op : Byte} {p : Bool} (h : ¬t.assigns op p = true) :
    decodeCell t op p = if p then .prefixCB op else .unknown op := if_neg h

/-- TABLE assigns exactly the cells that decode to an instruction (R95). -/
theorem isInstruction_kind_decodeCell_iff {t : Table} {op : Byte} {p : Bool} :
    (decodeCell t op p).kind.isInstruction = true ↔ t.assigns op p = true := by
  constructor
  · intro hinstruction
    by_contra hassigns
    rw [decodeCell_of_not_assigns hassigns] at hinstruction
    cases p <;> cases hinstruction
  · intro hassigns
    rw [decodeCell_of_assigns hassigns]
    exact isInstruction_kind_gridCell (Table.assigns_tFull_of_assigns hassigns)

/-! ## Well-formed terms -/

theorem wellFormed_unknown {t : Table} {op : Byte} :
    WellFormed t (.unknown op) ↔ op ≠ 0xCB ∧ ¬t.assigns op false = true := by
  show (op != 0xCB && !t.assigns op false) = true ↔ _
  rw [Bool.and_eq_true, bne_iff_ne, Bool.not_eq_true', Bool.not_eq_true]

theorem wellFormed_prefixCB {t : Table} {op : Byte} : WellFormed t (.prefixCB op) ↔ ¬t.assigns op true = true := by
  show (!t.assigns op true) = true ↔ _
  rw [Bool.not_eq_true', Bool.not_eq_true]

theorem wellFormed_eq_holds {i : Instr} (h : i.kind.isInstruction = true) (t : Table) :
    wellFormed t i = t.holds i.kind.tier := by
  unfold wellFormed
  split
  case h_1 op hkind => rw [hkind] at h; cases h
  case h_2 op hkind => rw [hkind] at h; cases h
  case h_3 => rfl

/-! ## The opcode bytes of a cell -/

/-- The bytes fetch takes for a cell (R80, R87). -/
def opcodeBytes (op : Byte) (p : Bool) : List Byte := if p then [0xCB, op] else [op]

/-- The cells that fetch can name: the unprefixed 0xCB is consumed as the marker (R87, R95). -/
def fetchable (op : Byte) (p : Bool) : Prop := p = true ∨ op ≠ 0xCB

theorem decode_opcodeBytes {op : Byte} {p : Bool} (h : fetchable op p) (t : Table) (rest : List Byte) :
    decode t (opcodeBytes op p ++ rest) = .ok (decodeCell t op p, rest) := by
  cases p with
  | true => rfl
  | false => exact if_neg (h.resolve_left nofun)

/-- What the decoder answers is the cell of the bytes it took. -/
theorem eq_decodeCell_of_decode {t : Table} {bs rest : List Byte} {i : Instr} (h : decode t bs = .ok (i, rest)) :
    ∃ op p, fetchable op p ∧ bs = opcodeBytes op p ++ rest ∧ i = decodeCell t op p := by
  match bs with
  | [] => cases h
  | b0 :: bs =>
    by_cases hmarker : b0 = 0xCB
    · subst hmarker
      match bs with
      | [] => cases h
      | op :: bs =>
        cases h
        exact ⟨op, true, .inl rfl, rfl, rfl⟩
    · have hcell : decode t (b0 :: bs) = .ok (decodeCell t b0 false, bs) := if_neg hmarker
      cases hcell.symm.trans h
      exact ⟨b0, false, .inr hmarker, rfl, rfl⟩

/-! ## Cells and encodings -/

/-- The structure of a second byte puts it together again (R94, R260). -/
theorem cbByte_cbOpOf (op : Byte) : cbByte (cbOpOf op) (locOf (fieldZ op)) = op := by
  revert op; decide +kernel

/-- The encoder writes the bytes of every cell but the second byte of Inc(BC) (R101, log 9). -/
theorem encode_gridCell {op : Byte} {p : Bool} (h : Table.tFull.assigns op p = true) (hinc : (op, p) ≠ (0x03, false)) :
    encode (gridCell op p) = opcodeBytes op p := by
  cases p with
  | true => rw [encode, kind_markedCell, Kind.encode, cbByte_cbOpOf]; rfl
  | false => revert op; decide +kernel

/-- TABLE assigns the cells whose tier it holds, but for the second byte of Inc(BC) (R91, R92, R95). -/
theorem Table.assigns_eq_holds {op : Byte} {p : Bool} (t : Table) (h : Table.tFull.assigns op p = true)
    (hinc : (op, p) ≠ (0x03, false)) : t.assigns op p = t.holds (gridCell op p).kind.tier := by
  cases t with
  | tFull => exact h
  | tSrc | tMin =>
    cases p with
    | true => rw [kind_markedCell]; revert op; decide +kernel
    | false => revert op; decide +kernel

theorem Table.holds_of_assigns {t : Table} {op : Byte} {p : Bool} (h : t.assigns op p = true) :
    t.holds (gridCell op p).kind.tier = true := by
  by_cases hinc : (op, p) = (0x03, false)
  · cases hinc
    cases t <;> rfl
  · rw [← t.assigns_eq_holds (assigns_tFull_of_assigns h) hinc, h]

/-- The encodings of the instruction rules against the grids: every instruction has its cell where it is encoded. -/
theorem decode_encode_tFull {i : Instr} (h : i.kind.isInstruction = true) : decode .tFull (encode i) = .ok (i, []) := by
  cases i
  case unknown op => cases h
  case prefixCB op => cases h
  all_goals rfl

/-- A well-formed term is what its TABLE has in the cell of its encoding. -/
theorem exists_cell_of_wellFormed {t : Table} {i : Instr} (h : WellFormed t i) :
    ∃ op p, fetchable op p ∧ encode i = opcodeBytes op p ∧ decodeCell t op p = i := by
  rcases i.unknown_or_isInstruction with ⟨op, rfl⟩ | ⟨op, rfl⟩ | hinstruction
  · obtain ⟨hop, hassigns⟩ := wellFormed_unknown.1 h
    exact ⟨op, false, .inr hop, rfl, decodeCell_of_not_assigns hassigns⟩
  · exact ⟨op, true, .inl rfl, rfl, decodeCell_of_not_assigns (wellFormed_prefixCB.1 h)⟩
  · obtain ⟨op, p, hfetch, hbytes, rfl⟩ := eq_decodeCell_of_decode (decode_encode_tFull hinstruction)
    have hfull := isInstruction_kind_decodeCell_iff.1 hinstruction
    have hinc : (op, p) ≠ (0x03, false) := by
      intro hcell
      cases hcell
      exact absurd hbytes (by decide)
    rw [List.append_nil] at hbytes
    rw [decodeCell_of_assigns hfull] at h hbytes hinstruction ⊢
    have hassigns : t.assigns op p = true := by
      rw [t.assigns_eq_holds hfull hinc, ← wellFormed_eq_holds hinstruction t, h]
    exact ⟨op, p, hfetch, hbytes, decodeCell_of_assigns hassigns⟩

theorem wellFormed_decodeCell {op : Byte} {p : Bool} (h : fetchable op p) (t : Table) :
    WellFormed t (decodeCell t op p) := by
  by_cases hassigns : t.assigns op p = true
  · have hinstruction := isInstruction_kind_decodeCell_iff.2 hassigns
    rw [decodeCell_of_assigns hassigns] at hinstruction ⊢
    rw [WellFormed, wellFormed_eq_holds hinstruction, Table.holds_of_assigns hassigns]
  · rw [decodeCell_of_not_assigns hassigns]
    cases p with
    | true => exact wellFormed_prefixCB.2 hassigns
    | false => exact wellFormed_unknown.2 ⟨h.resolve_left nofun, hassigns⟩

/-- A cell under any TABLE encodes to its bytes, but for the second byte of Inc(BC), which only `T_full` has (R101). -/
theorem encode_decodeCell (t : Table) (op : Byte) (p : Bool) :
    encode (decodeCell t op p) = opcodeBytes op p ∨
      t = .tFull ∧ decodeCell t op p = .incBc ∧ opcodeBytes op p = [0x03] := by
  by_cases hassigns : t.assigns op p = true
  · by_cases hinc : (op, p) = (0x03, false)
    · cases hinc
      cases t with
      | tSrc | tMin => cases hassigns
      | tFull => exact .inr ⟨rfl, rfl, rfl⟩
    · rw [decodeCell_of_assigns hassigns]
      exact .inl (encode_gridCell (Table.assigns_tFull_of_assigns hassigns) hinc)
  · rw [decodeCell_of_not_assigns hassigns]
    cases p <;> exact .inl rfl

/-! ## How many cells a TABLE assigns -/

theorem assignedCount_eq (t : Table) (p : Bool) :
    assignedCount t p = (bytes.filter fun op => t.assigns op p).length := by
  have hcell (op : Byte) : (decodeCell t op p != if p then .prefixCB op else .unknown op) = t.assigns op p := by
    rw [Bool.eq_iff_iff, bne_iff_ne, ← not_iff_not, not_ne_iff]
    exact unknownCell_iff_not_assigns
  rw [assignedCount, funext hcell]

/-- The marker's byte has no unprefixed cell under any TABLE (R95). -/
theorem Table.not_assigns_marker (t : Table) : ¬t.assigns 0xCB false = true := fun h =>
  (assigns_tFull.1 (assigns_tFull_of_assigns h)).elim nofun fun hknown => hknown.2 rfl

end Sys2Proof

namespace Sys2Proof.Proofs

/-- Settles O1: the encoding names the cell where TABLE has the instruction, and the decoder reads that cell. -/
theorem decodeOfEncodeIsIdentity : Obligations.DecodeOfEncodeIsIdentity := by
  intro t i rest hwf
  obtain ⟨op, p, hfetch, hbytes, hcell⟩ := exists_cell_of_wellFormed hwf
  rw [hbytes, decode_opcodeBytes hfetch, hcell]

/-- Settles O2: the decoder answers the cell of the bytes it took, which is well formed and encodes to them. -/
theorem encodeOfDecodeIsTheWordRead : Obligations.EncodeOfDecodeIsTheWordRead := by
  intro t bs rest i hdecode
  obtain ⟨op, p, hfetch, rfl, rfl⟩ := eq_decodeCell_of_decode hdecode
  refine ⟨wellFormed_decodeCell hfetch t, ?_⟩
  rcases encode_decodeCell t op p with hbytes | ⟨ht, hcell, hbytes⟩
  · exact .inl (by rw [hbytes])
  · exact .inr ⟨ht, hcell, by rw [hbytes]; rfl⟩

/-- Settles O3: each word is the encoding of a well-formed instruction, so the decoder answers that instruction. -/
theorem sampleWordsDecodeRight : Obligations.SampleWordsDecodeRight := by
  have hword := decodeOfEncodeIsIdentity
  exact ⟨hword .tFull .addAC [] rfl, hword .tFull .incDe [] rfl, hword .tFull .rlcB [] rfl,
    hword .tFull .jpNzNn _ rfl, hword .tFull .ldBC [] rfl, hword .tFull .ldMemHlL [] rfl, hword .tFull .ldAN _ rfl,
    hword .tFull .ldHlSpDisp _ rfl, hword .tFull .pushAf [] rfl, hword .tFull .sbcAH [] rfl,
    hword .tFull .incMemHl [] rfl, hword .tFull .addHlSp [] rfl, hword .tFull .daa [] rfl, hword .tFull .set1E [] rfl,
    hword .tFull .bit4L [] rfl, hword .tFull .callCNn _ rfl, hword .tFull .rst28H [] rfl,
    hword .tFull (.unknown 0xFF) [] rfl, hword .tMin (.prefixCB 0x01) [] rfl⟩

/-- Settles O6: a cell decodes to an Instruction exactly when TABLE assigns it, and none assigns the marker's byte. -/
theorem tableCountsOfDecodedCells : Obligations.TableCountsOfDecodedCells := by
  unfold Obligations.TableCountsOfDecodedCells
  simp only [assignedCount_eq]
  refine ⟨?_, ?_, ?_, ?_, ?_, ?_, fun t => unknownCell_iff_not_assigns.2 t.not_assigns_marker⟩ <;> decide +kernel

end Sys2Proof.Proofs
end

section
/-! SUPPORT. What every instruction writes and what it leaves alone (spec/10_state.md R36, R38; spec/20_memory.md R65,
R67), said once for each kind, and the statements read off it. -/

open Sys2Proof Sys2Proof.Machine Sys2Proof.Claims

namespace Sys2Proof.Machine

/-! ## Writes that stay within a rule -/

/-- The flags outside a mask keep their values (R36). -/
def FlagsKept (mask before after : Flags) : Prop :=
  (mask.z = false → after.z = before.z) ∧ (mask.n = false → after.n = before.n) ∧
  (mask.h = false → after.h = before.h) ∧ (mask.c = false → after.c = before.c)

theorem FlagsKept.refl (mask f : Flags) : FlagsKept mask f f :=
  ⟨fun _ => rfl, fun _ => rfl, fun _ => rfl, fun _ => rfl⟩

/-- A mask that lets every flag be written asks nothing. -/
theorem FlagsKept.all {f g : Flags} : FlagsKept ⟨true, true, true, true⟩ f g := ⟨nofun, nofun, nofun, nofun⟩

/-- What leads from `s` to `t` is within the rule of a kind (R36, R38): what the rule does not let it write is kept. -/
structure Within (k : Kind) (s t : State) : Prop where
  cfg : t.cfg = s.cfg
  halted : k.isInstruction = true → t.halted = s.halted
  reg : ∀ r, r ∉ writableRegs k → t.reg r = s.reg r
  sp : maySetSp k = false → t.sp = s.sp
  flags : FlagsKept (writableFlags k) s.f t.f

theorem State.reg_setPair_of_notMem (s : State) {rr : Reg16} {r : Reg8} (v : Word) (h : r ∉ pairRegs rr) :
    (s.setPair rr v).reg r = s.reg r := by
  rw [State.reg_setPair]
  split
  case h_8 => rfl
  all_goals exact absurd (by decide) h

namespace Within

variable {k : Kind} {s t u : State}

theorem refl : Within k s s := ⟨rfl, fun _ => rfl, fun _ _ => rfl, fun _ => rfl, .refl _ _⟩

theorem ite {p : Prop} [Decidable p] (ht : Within k s t) (hu : Within k s u) : Within k s (if p then t else u) := by
  split
  · exact ht
  · exact hu

theorem setPc {v : Word} (h : Within k s t) : Within k s (t.setPc v) :=
  ⟨h.cfg, h.halted, fun r hr => (t.reg_setPc v r).trans (h.reg r hr), h.sp, h.flags⟩

theorem advance {n : Word} (h : Within k s t) : Within k s (t.advance n) := h.setPc

theorem store8 {a : Word} {v : Byte} (h : Within k s t) : Within k s (t.store8 a v) :=
  ⟨h.cfg, h.halted, fun r hr => (t.reg_store8 a v r).trans (h.reg r hr), h.sp, h.flags⟩

theorem push16 {v : Word} (hsp : maySetSp k = true) (h : Within k s t) : Within k s (t.push16 v) :=
  ⟨h.cfg, h.halted, fun r hr => (t.reg_push16 v r).trans (h.reg r hr), fun hkept => absurd (hsp.symm.trans hkept) nofun,
    h.flags⟩

theorem drop16 (hsp : maySetSp k = true) (h : Within k s t) : Within k s t.drop16 :=
  ⟨h.cfg, h.halted, fun r hr => (t.reg_drop16 r).trans (h.reg r hr), fun hkept => absurd (hsp.symm.trans hkept) nofun,
    h.flags⟩

theorem setFlags {f : Flags} (hf : FlagsKept (writableFlags k) s.f f) (h : Within k s t) : Within k s (t.setFlags f) :=
  ⟨h.cfg, h.halted, fun r hr => (t.reg_setFlags f r).trans (h.reg r hr), h.sp, hf⟩

theorem setReg {r : Reg8} {v : Byte} (hr : r ∈ writableRegs k) (h : Within k s t) : Within k s (t.setReg r v) where
  cfg := (t.setReg_cfg r v).trans h.cfg
  halted hk := (t.setReg_halted r v).trans (h.halted hk)
  reg r' hr' := by rw [State.reg_setReg, if_neg (ne_of_mem_of_not_mem hr hr'), h.reg r' hr']
  sp hsp := (t.setReg_sp r v).trans (h.sp hsp)
  flags := (t.setReg_f r v).symm ▸ h.flags

/-- A pair write within the rule: its registers, `sp` and, for AF, every flag may be written. -/
theorem setPair {rr : Reg16} {v : Word} (hrr : pairRegs rr ⊆ writableRegs k) (hsp : rr = .sp → maySetSp k = true)
    (hf : rr = .af → writableFlags k = ⟨true, true, true, true⟩) (h : Within k s t) :
    Within k s (t.setPair rr v) where
  cfg := (t.setPair_cfg rr v).trans h.cfg
  halted hk := (t.setPair_halted rr v).trans (h.halted hk)
  reg r hr := (t.reg_setPair_of_notMem v fun hmem => hr (hrr hmem)).trans (h.reg r hr)
  sp hkept := by
    rw [State.setPair_sp, if_neg fun heq => absurd ((hsp heq).symm.trans hkept) nofun, h.sp hkept]
  flags := by
    rw [State.setPair_f]
    split
    next haf =>
      rw [hf haf]
      exact .all
    next => exact h.flags

theorem setLoc8 {x : Loc8} {v : Byte} (hx : locRegs x ⊆ writableRegs k) (h : Within k s t) :
    Within k s (t.setLoc8 x v) := by
  cases x with
  | reg r => exact h.setReg (hx (List.mem_singleton_self r))
  | memHl => exact h.store8

theorem raiseIllegal {op : Byte} {p : Bool} (hk : k.isInstruction = false) (h : Within k s t) :
    Within k s (raiseIllegal op p t) :=
  ⟨h.cfg, fun hinstruction => absurd (hk.symm.trans hinstruction) nofun,
    fun r hr => (reg_raiseIllegal op p t r).trans (h.reg r hr), h.sp, h.flags⟩

end Within

/-! ## Every operation stays within its rule -/

theorem runCb_within (op : CbOp) (x : Loc8) (s : State) : Within (.cb op x) s (runCb op x s) := by
  have hloc : locRegs x ⊆ locRegs x := fun _ => id
  have hrotate (o : RotOp) : Within (.cb (.rot o) x) s (rotate o x s) :=
    .advance (.setFlags .all (.setLoc8 hloc .refl))
  cases op with
  | rot o =>
    cases o
    case rlc =>
      cases x with
      | reg r => exact .ite (.advance (.setFlags .all (.setReg (hloc (List.mem_singleton_self r)) .refl))) .refl
      | memHl => exact hrotate .rlc
    all_goals exact hrotate _
  | bit b => exact .advance (.setFlags ⟨nofun, nofun, nofun, fun _ => rfl⟩ .refl)
  | res b | set b => exact .advance (.setLoc8 hloc .refl)

theorem alu_within (op : AluOp) (x : Operand8) (s : State) : Within (.alu op x) s (runKind (.alu op x) s) := by
  have halu (ha : Reg8.a ∈ writableRegs (.alu op x)) : Within (.alu op x) s (alu op x s) :=
    .advance (.setFlags .all (.setReg ha .refl))
  cases op
  case add =>
    cases x with
    | reg r => exact .ite (.advance (.setFlags .all (.setReg (.head _) .refl))) .refl
    | memHl | imm => exact halu (.head _)
  case cp => exact .advance (.setFlags .all ((State.setReg_reg s .a).symm ▸ .refl))
  all_goals exact halu (.head _)

/-- Every instruction keeps what its rule does not let it write (R36, R38). -/
theorem runKind_within (k : Kind) (s : State) : Within k s (runKind k s) := by
  cases k with
  | nop => exact .advance .refl
  | ldPairImm p | inc p | dec16 p =>
    exact .advance (.setPair (fun _ => id) (by cases p <;> decide) (by cases p <;> decide) .refl)
  | inc8 x | dec8 x => exact .advance (.setFlags ⟨nofun, nofun, nofun, fun _ => rfl⟩ (.setLoc8 (fun _ => id) .refl))
  | ldRegImm r | ldRegMemHl r => exact .advance (.setReg (List.mem_singleton_self r) .refl)
  | ldRegReg rd rs => exact .advance (.setReg (List.mem_singleton_self rd) .refl)
  | rlca | rrca | rla | rra => exact .advance (.setFlags .all (.setReg (.head _) .refl))
  | daa => exact .advance (.setFlags ⟨nofun, fun _ => rfl, nofun, nofun⟩ (.setReg (.head _) .refl))
  | cpl => exact .advance (.setFlags ⟨fun _ => rfl, nofun, nofun, fun _ => rfl⟩ (.setReg (.head _) .refl))
  | scf | ccf => exact .advance (.setFlags ⟨fun _ => rfl, nofun, nofun, nofun⟩ .refl)
  | ldMemNnSp => exact .advance (.store8 (.store8 .refl))
  | addHl p => exact .advance (.setFlags ⟨fun _ => rfl, nofun, nofun, nofun⟩ (.setPair (fun _ => id) nofun nofun .refl))
  | ldAMemBc | ldAMemDe | ldhAMemN | ldAMemC | ldAMemNn => exact .advance (.setReg (.head _) .refl)
  | ldMemHlImm | ldMemDeA | ldMemHlReg r | ldhMemNA | ldMemCA | ldMemNnA => exact .advance (.store8 .refl)
  | ldMemHliA | ldMemHldA => exact .advance (.setPair (fun _ => id) nofun nofun (.store8 .refl))
  | ldAMemHli | ldAMemHld => exact .advance (.setPair (fun _ => .tail _) nofun nofun (.setReg (.head _) .refl))
  | alu op x => exact alu_within op x s
  | jp cc | jr cc => exact .ite (.setPc .refl) (.advance .refl)
  | jpHl => exact .setPc .refl
  | call cc => exact .ite (.setPc (.push16 rfl .refl)) (.advance .refl)
  | ret cc => exact .ite (.setPc (.drop16 rfl .refl)) (.advance .refl)
  | rst t => exact .setPc (.push16 rfl .refl)
  | push p => exact .advance (.push16 rfl .refl)
  | pop p =>
    exact .advance (.setPair (fun _ => id) (by cases p <;> decide) (by cases p <;> decide) (.drop16 rfl .refl))
  | addSpDisp => exact .advance (.setFlags .all (.setPair nofun (fun _ => rfl) nofun .refl))
  | ldHlSpDisp => exact .advance (.setFlags .all (.setPair (fun _ => id) nofun nofun .refl))
  | ldSpHl => exact .advance (.setPair nofun (fun _ => rfl) nofun .refl)
  | cb op x => exact runCb_within op x s
  | marker op2 =>
    obtain ⟨hcfg, hhalted, hreg, hsp, hflags⟩ := runCb_within (cbOpOf op2) (locOf (fieldZ op2)) s
    exact .ite ⟨hcfg, fun _ => hhalted rfl, hreg, hsp, hflags⟩ (.raiseIllegal rfl .refl)
  | unknown op => exact .raiseIllegal rfl .refl

/-! ## Every operation writes what its access list says -/

theorem ite_mem {p : Prop} [Decidable p] {s t u : State} {l m : List Access}
    (ht : t.mem = l.foldl applyAccess s.mem) (hu : u.mem = m.foldl applyAccess s.mem) :
    (if p then t else u).mem = (if p then l else m).foldl applyAccess s.mem := by
  split
  · exact ht
  · exact hu

theorem alu_mem (op : AluOp) (x : Operand8) (s : State) :
    (runKind (.alu op x) s).mem = (kindAccesses (.alu op x) s).foldl applyAccess s.mem := by
  have hreads : (operandReads x s).foldl applyAccess s.mem = s.mem := by cases x <;> rfl
  rw [kindAccesses, hreads]
  cases op
  case add =>
    cases x with
    | reg r => exact (apply_ite State.mem _ _ _).trans (ite_self _)
    | memHl | imm => rfl
  all_goals rfl

/-- Memory after an instruction is memory before it with the writes of its accesses (R67). -/
theorem runKind_mem (k : Kind) (s : State) :
    (runKind k s).mem = (kindAccesses k s).foldl applyAccess s.mem := by
  cases k with
  | ldPairImm p | inc p | dec16 p => exact s.setPair_mem p.toReg16 _
  | pop p => exact s.drop16.setPair_mem p.toReg16 _
  | inc8 x | dec8 x =>
    have hreads : (locReads x s).foldl applyAccess s.mem = s.mem := by cases x <;> rfl
    rw [kindAccesses, List.foldl_append, hreads]
    exact s.setLoc8_mem x _
  | ldRegImm r | ldRegMemHl r => exact s.setReg_mem r _
  | ldRegReg rd rs => exact s.setReg_mem rd _
  | alu op x => exact alu_mem op x s
  | jp cc | jr cc | call cc | ret cc => exact ite_mem rfl rfl
  | cb op x => exact runCb_mem op x s
  | marker op2 => exact ite_mem (runCb_mem _ _ s) rfl
  | _ => rfl

/-! ## Executions and steps -/

theorem eq_runKind_of_exec {i : Instr} {s t : State} (h : exec i s = .next t) : t = runKind i.kind s := by
  rw [exec_eq_runKind] at h
  exact (Host.Outcome.next.inj h).symm

/-- A step from a running core ran the fetched instruction's operation. -/
theorem eq_runKind_of_step {s t : State} (hrun : s.halted = none) (h : step s = .next t) :
    t = runKind (fetchInstr s).kind s := by
  rw [step_of_running hrun] at h
  exact (Host.Outcome.next.inj h).symm

/-- A step from a halted core stays where it is. -/
theorem eq_of_step_of_halted {s t : State} {r : HaltRecord} (hhalted : s.halted = some r) (h : step s = .next t) :
    t = s := by
  rw [step_of_halted hhalted] at h
  exact (Host.Outcome.next.inj h).symm

theorem stepAccesses_of_running {s : State} (h : s.halted = none) :
    stepAccesses s = fetchAccesses s ++ kindAccesses (fetchInstr s).kind s := by
  rw [stepAccesses, h]

/-- Fetch reads only (R111). -/
theorem foldl_fetchAccesses (s : State) (m : Memory) : (fetchAccesses s).foldl applyAccess m = m := by
  unfold fetchAccesses
  split <;> rfl

/-- Memory after a step is memory before it with the step's writes (R67). -/
theorem mem_of_step {s t : State} (h : step s = .next t) : t.mem = (stepAccesses s).foldl applyAccess s.mem := by
  cases hlatch : s.halted with
  | none =>
    rw [eq_runKind_of_step hlatch h, runKind_mem, stepAccesses_of_running hlatch, List.foldl_append,
      foldl_fetchAccesses]
  | some r => rw [eq_of_step_of_halted hlatch h, stepAccesses_of_halted hlatch, List.foldl_nil]

theorem cfg_of_step {s t : State} (h : step s = .next t) : t.cfg = s.cfg := by
  cases hlatch : s.halted with
  | none => rw [eq_runKind_of_step hlatch h, (runKind_within _ s).cfg]
  | some r => rw [eq_of_step_of_halted hlatch h]

/-! ## Fetch after a store -/

theorem fetchOpcode_of_marker {s : State} (h : s.load8 s.pc = 0xCB) : fetchOpcode s = (s.load8 (s.pc + 1), true) :=
  if_pos h

theorem fetchOpcode_of_ne_marker {s : State} (h : s.load8 s.pc ≠ 0xCB) : fetchOpcode s = (s.load8 s.pc, false) :=
  if_neg h

/-- The last byte a step wrote to an address is what is there after the step (R65). -/
theorem load8_of_last_write {s t : State} {before after : List Access} {a : Word} {v : Byte} (h : step s = .next t)
    (hlist : stepAccesses s = before ++ .write a v :: after) (hlast : a ∉ writtenBy after) : t.load8 a = v := by
  rw [State.load8, mem_of_step h, hlist, read_foldl_applyAccess_last _ _ _ _ _ hlast]

end Sys2Proof.Machine

namespace Sys2Proof.Proofs

/-- Settles O9: a step stays or runs its operation, and every execution is the operation of a kind. -/
theorem everyStepAnswersANextState : Obligations.EveryStepAnswersANextState := by
  refine ⟨fun s => ?_, fun i s => ⟨_, exec_eq_runKind i s⟩⟩
  rcases step_cases s with ⟨_, _, hstep⟩ | ⟨_, hstep⟩
  · exact ⟨_, hstep⟩
  · exact ⟨_, hstep⟩

/-- Settles O15: no operation writes the configuration, and reset takes it over from the state before. -/
theorem configurationNeverChanges : Obligations.ConfigurationNeverChanges := by
  refine ⟨fun i s t hexec => ?_, fun s t => cfg_of_step, fun _ _ => rfl⟩
  rw [eq_runKind_of_exec hexec, (runKind_within i.kind s).cfg]

/-- Settles O19: fetch reads only, and every operation writes what its access list says. -/
theorem memoryAfterAStepIsItsWrites : Obligations.MemoryAfterAStepIsItsWrites := fun _ _ => mem_of_step

/-- Settles O20: memory changes by the writes of the access list only. -/
theorem memoryFrameOfEveryInstruction : Obligations.MemoryFrameOfEveryInstruction := by
  intro i s t a hexec hnot
  rw [eq_runKind_of_exec hexec, State.load8, runKind_mem, read_foldl_applyAccess _ _ _ hnot, State.load8]

/-- Settles O21: every operation stays within the rule of its kind, and only the two "unknown" terms set the latch. -/
theorem registerFrameOfEveryInstruction : Obligations.RegisterFrameOfEveryInstruction := by
  intro i s t hexec
  rw [eq_runKind_of_exec hexec]
  have hwithin := runKind_within i.kind s
  refine ⟨hwithin.reg, hwithin.sp, fun hterm => hwithin.halted ?_⟩
  rcases i.unknown_or_isInstruction with ⟨op, hunknown⟩ | ⟨op, hmarker⟩ | hinstruction
  · exact absurd hunknown (hterm op).1
  · exact absurd hmarker (hterm op).2
  · exact hinstruction

/-- Settles O22: every operation stays within the flags of its kind. -/
theorem flagFrameOfEveryInstruction : Obligations.FlagFrameOfEveryInstruction := by
  intro i s t hexec
  rw [eq_runKind_of_exec hexec]
  exact (runKind_within i.kind s).flags

/-- Settles O24: fetch reads the memory the step's writes leave, in which the last byte written to an address stands. -/
theorem storeIsSeenByTheNextFetch : Obligations.StoreIsSeenByTheNextFetch := by
  intro s t hrun hstep
  refine ⟨by rw [← mem_of_step hstep]; rfl, fun before after a v hlist hlast => ?_, fun hinstr hhl => ?_⟩
  · have hread : t.load8 a = v := load8_of_last_write hstep hlist hlast
    refine ⟨?_, ?_, ?_⟩
    · rintro rfl hv
      rw [fetchOpcode_of_ne_marker (hread.symm ▸ hv), hread]
    · rintro rfl hv
      rw [fetchOpcode_of_marker (hread.trans hv)]
    · rintro rfl hmarker
      rw [fetchOpcode_of_marker hmarker, hread]
  · have ht : t = ldMemHlReg .a s := by
      rw [eq_runKind_of_step hrun hstep, hinstr]
      rfl
    have hpc : t.pc = s.pc + 1 := by
      rw [ht]
      rfl
    have hread : t.load8 t.pc = s.a := by
      rw [hpc, ← hhl, ht, ldMemHlReg_eq]
      exact (s.load8_store8 _ _ _).trans (if_pos rfl)
    refine ⟨hpc, hread, fun hv => ?_⟩
    rw [fetchOpcode_of_ne_marker (hread.symm ▸ hv), hread]

end Sys2Proof.Proofs
end

section
/-! SUPPORT. What a step is, by its fetched cell: the exception, a gap of the source, or an instruction's meaning
(spec/40_step_cycle.md R110 to R118; spec/60_exceptions.md R300 to R302); runs (spec/70_reset_and_hazards.md R337,
R338); and the statements about them. -/

open Sys2Proof Sys2Proof.Machine Sys2Proof.Claims

namespace Sys2Proof.Machine

/-! ## The fetched cell -/

/-- The fetched instruction is the decoder's answer on the bytes at `pc` (R111, R112). -/
theorem decode_at_pc (s : State) (more : List Byte) :
    ∃ rest, decode s.cfg.table (s.load8 s.pc :: s.load8 (s.pc + 1) :: more) = .ok (fetchInstr s, rest) := by
  by_cases hmarker : s.load8 s.pc = 0xCB
  · rw [fetchInstr, fetchOpcode_of_marker hmarker, hmarker]
    exact ⟨_, rfl⟩
  · rw [fetchInstr, fetchOpcode_of_ne_marker hmarker]
    exact ⟨_, if_neg hmarker⟩

/-- The cell fetch takes from `s` is unknown under its TABLE (R113). -/
abbrev fetchesUnknown (s : State) : Prop := unknownCell s.cfg.table (fetchOpcode s).1 (fetchOpcode s).2

/-- A cell that is not unknown is an instruction (R95). -/
theorem isInstruction_fetchInstr_iff {s : State} : (fetchInstr s).kind.isInstruction = true ↔ ¬fetchesUnknown s :=
  isInstruction_kind_decodeCell_iff.trans (not_iff_comm.1 unknownCell_iff_not_assigns.symm).symm

/-- From a running core, an unknown cell takes the exception. -/
theorem eq_raiseIllegal_of_step {s t : State} (hrun : s.halted = none) (hunknown : fetchesUnknown s)
    (h : step s = .next t) : t = raiseIllegal (fetchOpcode s).1 (fetchOpcode s).2 s := by
  rw [step_of_unknownCell hrun rfl hunknown] at h
  exact (Host.Outcome.next.inj h).symm

/-- From a running core, every other cell leaves the core running. -/
theorem halted_of_step_of_not_unknown {s t : State} (hrun : s.halted = none) (hknown : ¬fetchesUnknown s)
    (h : step s = .next t) : t.halted = none := by
  rw [eq_runKind_of_step hrun h, (runKind_within _ s).halted (isInstruction_fetchInstr_iff.2 hknown), hrun]

/-- R300's when and only when. -/
theorem halted_ne_none_iff_of_step {s t : State} (hrun : s.halted = none) (h : step s = .next t) :
    t.halted ≠ none ↔ fetchesUnknown s := by
  constructor
  · intro hhalted
    by_contra hknown
    exact hhalted (halted_of_step_of_not_unknown hrun hknown h)
  · intro hunknown
    rw [eq_raiseIllegal_of_step hrun hunknown h]
    exact nofun

/-! ## The outcome of a step -/

theorem reportKind_of_isInstruction {k : Kind} (h : k.isInstruction = true) (s : State) :
    reportKind k s = if lacksSemantics s.cfg k then .unimplemented k else .ok := by
  cases k
  case unknown op => cases h
  case marker op2 => cases h
  all_goals rfl

theorem withoutSemantics_rlc_iff {s : State} {r : Reg8} :
    withoutSemantics s (.cb (.rot .rlc) (.reg r)) ↔ s.cfg.profile = .asBuilt := by
  simp [withoutSemantics]

theorem withoutSemantics_add_iff {s : State} {r : Reg8} :
    withoutSemantics s (.alu .add (.reg r)) ↔ ¬addImplemented s.cfg r = true := by
  have hprofile : s.cfg.profile = .asBuilt ↔ ¬s.cfg.profile = .completed := by cases s.cfg.profile <;> decide
  rw [addImplemented_iff, not_or, ← hprofile]
  simp [withoutSemantics]

/-- The outcome's test is the statement's reading of R118 (R130, R132, R134). -/
theorem lacksSemantics_iff {s : State} {k : Kind} : lacksSemantics s.cfg k = true ↔ withoutSemantics s k := by
  unfold lacksSemantics
  split
  case h_1 r => rw [withoutSemantics_rlc_iff, beq_iff_eq]
  case h_2 r => rw [withoutSemantics_add_iff, Bool.not_eq_true', Bool.not_eq_true]
  case h_3 hrlc hadd =>
    refine ⟨nofun, fun ⟨_, hkind⟩ => ?_⟩
    rcases hkind with ⟨r, hk⟩ | ⟨r, _, hk⟩
    · exact absurd hk (hrlc r)
    · exact absurd hk (hadd r)

theorem isInstruction_of_withoutSemantics {s : State} {k : Kind} (h : withoutSemantics s k) :
    k.isInstruction = true := by
  obtain ⟨_, ⟨r, rfl⟩ | ⟨r, _, rfl⟩⟩ := h <;> rfl

/-- An instruction without semantics changes nothing, `pc` included (R134). -/
theorem runKind_of_withoutSemantics {s : State} {k : Kind} (h : withoutSemantics s k) : runKind k s = s := by
  obtain ⟨hprofile, ⟨r, rfl⟩ | ⟨r, hr, rfl⟩⟩ := h
  · exact if_neg (hprofile.symm ▸ nofun)
  · exact addReg_of_not_implemented (not_addImplemented_of_asBuilt hprofile hr)

/-- An instruction without semantics is reported as itself (R118). -/
theorem reportKind_of_withoutSemantics {s : State} {k : Kind} (h : withoutSemantics s k) :
    reportKind k s = .unimplemented k := by
  rw [reportKind_of_isInstruction (isInstruction_of_withoutSemantics h), if_pos (lacksSemantics_iff.2 h)]

theorem step_of_withoutSemantics {s : State} (hrun : s.halted = none) (h : withoutSemantics s (fetchInstr s).kind) :
    step s = .next s := by
  rw [step_of_running hrun, runKind_of_withoutSemantics h]

/-- The outcome of every step: the latch was set, the fetched cell is unknown, its instruction is a gap of the source,
or its meaning runs (R118). -/
theorem stepReport_cases (s : State) :
    (s.halted ≠ none ∧ stepReport s = .halted) ∨
    (s.halted = none ∧ fetchesUnknown s ∧
      stepReport s = .illegalOpcode (fetchOpcode s).1 (fetchOpcode s).2 s.pc) ∨
    (s.halted = none ∧ ¬fetchesUnknown s ∧ withoutSemantics s (fetchInstr s).kind ∧
      stepReport s = .unimplemented (fetchInstr s).kind) ∨
    (s.halted = none ∧ ¬fetchesUnknown s ∧ ¬withoutSemantics s (fetchInstr s).kind ∧ stepReport s = .ok) := by
  cases hlatch : s.halted with
  | some r => exact .inl ⟨nofun, stepReport_of_halted hlatch⟩
  | none =>
    by_cases hunknown : fetchesUnknown s
    · exact .inr (.inl ⟨rfl, hunknown, stepReport_of_unknownCell hlatch rfl hunknown⟩)
    · have hreport : stepReport s = if lacksSemantics s.cfg (fetchInstr s).kind then
          .unimplemented (fetchInstr s).kind else .ok := by
        rw [stepReport_of_running hlatch, reportKind_of_isInstruction (isInstruction_fetchInstr_iff.2 hunknown)]
      by_cases hgap : withoutSemantics s (fetchInstr s).kind
      · exact .inr (.inr (.inl ⟨rfl, hunknown, hgap, hreport.trans (if_pos (lacksSemantics_iff.2 hgap))⟩))
      · exact .inr (.inr (.inr ⟨rfl, hunknown, hgap, hreport.trans (if_neg (mt lacksSemantics_iff.1 hgap))⟩))

theorem stepReport_eq_halted_iff {s : State} : stepReport s = .halted ↔ s.halted ≠ none := by
  rcases stepReport_cases s with ⟨h, hr⟩ | ⟨h, _, hr⟩ | ⟨h, _, _, hr⟩ | ⟨h, _, _, hr⟩ <;> simp [h, hr]

theorem stepReport_eq_illegalOpcode_iff {s : State} {op : Byte} {p : Bool} {a : Word} :
    stepReport s = .illegalOpcode op p a ↔
      s.halted = none ∧ fetchOpcode s = (op, p) ∧ a = s.pc ∧ unknownCell s.cfg.table op p := by
  constructor
  · intro h
    rcases stepReport_cases s with ⟨_, hr⟩ | ⟨hrun, hunknown, hr⟩ | ⟨_, _, _, hr⟩ | ⟨_, _, _, hr⟩ <;>
      cases hr.symm.trans h
    exact ⟨hrun, rfl, rfl, hunknown⟩
  · rintro ⟨hrun, hfetch, rfl, hunknown⟩
    exact stepReport_of_unknownCell hrun hfetch hunknown

theorem stepReport_eq_unimplemented_iff {s : State} {k : Kind} :
    stepReport s = .unimplemented k ↔ s.halted = none ∧ k = (fetchInstr s).kind ∧ withoutSemantics s k := by
  constructor
  · intro h
    rcases stepReport_cases s with ⟨_, hr⟩ | ⟨_, _, hr⟩ | ⟨hrun, _, hgap, hr⟩ | ⟨_, _, _, hr⟩ <;>
      cases hr.symm.trans h
    exact ⟨hrun, rfl, hgap⟩
  · rintro ⟨hrun, rfl, hgap⟩
    rw [stepReport_of_running hrun, reportKind_of_withoutSemantics hgap]

theorem stepReport_eq_ok_iff {s : State} :
    stepReport s = .ok ↔ s.halted = none ∧ ¬fetchesUnknown s ∧ ¬withoutSemantics s (fetchInstr s).kind := by
  rcases stepReport_cases s with ⟨h, hr⟩ | ⟨_, h, hr⟩ | ⟨_, _, h, hr⟩ | ⟨hrun, hknown, hsem, hr⟩
  · simp [h, hr]
  · simp [h, hr]
  · simp [h, hr]
  · simp [hrun, hknown, hsem, hr]

/-! ## Runs -/

/-- A halted state absorbs every run (R338). -/
theorem RunsTo.eq_of_halted {m : Nat} {t u : State} (h : RunsTo m t u) (hhalted : t.halted ≠ none) : u = t := by
  obtain ⟨r, hr⟩ := Option.ne_none_iff_exists'.1 hhalted
  induction h with
  | zero => rfl
  | succ hstep _ ih =>
    cases eq_of_step_of_halted hr hstep
    exact ih hhalted hr

/-- A run that started running and has halted did so by a step that fetched an unknown opcode (R122, R338). -/
theorem RunsTo.exists_last_step {n : Nat} {s t : State} (h : RunsTo n s t) (hhalted : t.halted ≠ none)
    (hrun : s.halted = none) : ∃ k v, RunsTo k s v ∧ v.halted = none ∧ Steps v t ∧ fetchesUnknown v := by
  induction h with
  | zero => exact absurd hrun hhalted
  | @succ n s s' t hstep htail ih =>
    by_cases hrun' : s'.halted = none
    · obtain ⟨k, v, hto, hv⟩ := ih hhalted hrun'
      exact ⟨k + 1, v, .succ hstep hto, hv⟩
    · cases htail.eq_of_halted hrun'
      exact ⟨0, s, .zero s, hrun, hstep, (halted_ne_none_iff_of_step hrun hstep).1 hhalted⟩

theorem runsTo_self {s : State} (h : step s = .next s) (n : Nat) : RunsTo n s s := by
  induction n with
  | zero => exact .zero s
  | succ n ih => exact .succ h ih

/-! ## The livelock of an Inc under as_built -/

theorem State.advance_zero (s : State) : s.advance 0 = s :=
  congrArg (fun pc => { s with pc := pc }) (BitVec.add_zero s.pc)

/-- Under `as_built` an Inc writes its pair and stays at its `pc` (R131, R337). -/
theorem incPair_of_asBuilt {s : State} (p : Rp) (h : s.cfg.profile = .asBuilt) :
    incPair p s = s.setPair p.toReg16 (s.pair p.toReg16 + 1) := by
  have hlen : incLen s.cfg = 0 := if_neg (h.symm ▸ nofun)
  rw [incPair, hlen, State.advance_zero]

/-- A pair write leaves the bytes at `pc` and TABLE alone. -/
theorem fetchInstr_setPair (s : State) (rr : Reg16) (v : Word) : fetchInstr (s.setPair rr v) = fetchInstr s := by
  cases rr <;> rfl

/-- After `n` steps at an Inc the pair has grown by `n` and nothing else has changed (R337). -/
theorem runsTo_inc {s : State} {p : Rp} (hprofile : s.cfg.profile = .asBuilt) (hrun : s.halted = none)
    (hkind : (fetchInstr s).kind = .inc p) (n : Nat) :
    RunsTo n s (s.setPair p.toReg16 (s.pair p.toReg16 + BitVec.ofNat 16 n)) := by
  induction n generalizing s with
  | zero =>
    rw [BitVec.add_zero, State.setPair_pair]
    exact .zero s
  | succ n ih =>
    have hstep : Steps s (s.setPair p.toReg16 (s.pair p.toReg16 + 1)) := by
      rw [Steps, step_of_running hrun, hkind, ← incPair_of_asBuilt p hprofile]
      rfl
    have htail := ih (s := s.setPair p.toReg16 (s.pair p.toReg16 + 1)) (by rw [State.setPair_cfg, hprofile])
      (by rw [State.setPair_halted, hrun]) (by rw [fetchInstr_setPair, hkind])
    have hsum : s.pair p.toReg16 + 1 + BitVec.ofNat 16 n = s.pair p.toReg16 + BitVec.ofNat 16 (n + 1) := by
      rw [BitVec.add_assoc, BitVec.add_comm 1, BitVec.ofNat_add]
      rfl
    rw [State.pair_setPair, State.setPair_setPair, hsum] at htail
    exact .succ hstep htail

end Sys2Proof.Machine

namespace Sys2Proof.Proofs

/-- Settles O13: memory stays canonical under the step's writes, and a halt record is made only by an unknown cell, from
the byte fetched at a `pc` that stays. -/
theorem everyStepKeepsTheInvariant : Obligations.EveryStepKeepsTheInvariant := by
  rintro s t ⟨hwf, hrecord⟩ hstep
  refine ⟨mem_of_step hstep ▸ wf_foldl_applyAccess _ hwf, ?_⟩
  cases hlatch : s.halted with
  | some r => rwa [eq_of_step_of_halted hlatch hstep]
  | none =>
    intro r hr
    have hunknown : fetchesUnknown s :=
      (halted_ne_none_iff_of_step hlatch hstep).1 (Option.ne_none_iff_exists'.2 ⟨r, hr⟩)
    have ht := eq_raiseIllegal_of_step hlatch hunknown hstep
    subst ht
    cases hr
    exact ⟨rfl, rfl, Bool.eq_false_of_not_eq_true (unknownCell_iff_not_assigns.1 hunknown)⟩

/-- Settles O12: an unknown cell takes the exception with its own record and outcome, any other keeps it running. -/
theorem haltsExactlyOnUnknownOpcodes : Obligations.HaltsExactlyOnUnknownOpcodes := by
  intro s t hrun hstep
  have hhalted := halted_ne_none_iff_of_step hrun hstep
  refine ⟨hhalted, fun r hr => ?_, ?_⟩
  · have hunknown := hhalted.1 (Option.ne_none_iff_exists'.2 ⟨r, hr⟩)
    rw [eq_raiseIllegal_of_step hrun hunknown hstep] at hr
    exact (Option.some.inj hr).symm
  · rw [hhalted, stepReport_eq_illegalOpcode_iff]
    exact ⟨fun hunknown => ⟨hrun, rfl, rfl, hunknown⟩, fun ⟨_, _, _, hunknown⟩ => hunknown⟩

/-- Settles O16: a halted state is its own next state, and the last step of the run that reached it fetched an unknown
opcode. -/
theorem haltedStatesAbsorbEveryRun : Obligations.HaltedStatesAbsorbEveryRun := fun _ _ _ _ _ hto hhalted hfrom =>
  ⟨hfrom.eq_of_halted hhalted, hto.exists_last_step hhalted⟩

/-- Settles O17: an Inc counts at one `pc`, and an instruction without semantics is the identity. -/
theorem asBuiltLivelock : Obligations.AsBuiltLivelock := by
  refine ⟨fun n s p hprofile hrun hkind => runsTo_inc hprofile hrun hkind n, fun n s hprofile hrun hkind => ?_⟩
  refine runsTo_self (step_of_withoutSemantics hrun ⟨hprofile, ?_⟩) n
  exact hkind.imp_right fun ⟨r, hk, hr⟩ => ⟨r, hr, hk⟩

/-- Settles O18: the four outcomes by the latch, the fetched cell and its instruction, and the step of each. -/
theorem stepOutcomesMeanWhatTheySay : Obligations.StepOutcomesMeanWhatTheySay := by
  intro s
  refine ⟨stepReport_eq_halted_iff, fun _ _ _ => stepReport_eq_illegalOpcode_iff,
    fun _ => stepReport_eq_unimplemented_iff, stepReport_eq_ok_iff, fun op p a h => ?_, fun k h => ?_, fun h => ?_,
    fun h => ?_⟩
  · obtain ⟨hrun, hfetch, rfl, hunknown⟩ := stepReport_eq_illegalOpcode_iff.1 h
    exact step_of_unknownCell hrun hfetch hunknown
  · obtain ⟨hrun, rfl, hgap⟩ := stepReport_eq_unimplemented_iff.1 h
    exact step_of_withoutSemantics hrun hgap
  · obtain ⟨r, hr⟩ := Option.ne_none_iff_exists'.1 (stepReport_eq_halted_iff.1 h)
    exact step_of_halted hr
  · rw [step_of_running (stepReport_eq_ok_iff.1 h).1, exec_eq_runKind]

/-- Settles O54: where TABLE assigns the second byte its cell is what the marker row runs, else the exception. -/
theorem markerRunsTheSecondTable : Obligations.MarkerRunsTheSecondTable := by
  refine fun op2 s => ⟨fun hknown => ?_, exec_prefixCB_of_unknownCell⟩
  have hassigns : s.cfg.table.assigns op2 true = true := not_not.1 (mt unknownCell_iff_not_assigns.2 hknown)
  rw [decodeCell_of_assigns hassigns, exec_of_kind (kind_markedCell op2), exec_eq_runKind]
  exact congrArg _ (if_pos hassigns)

/-- Settles O8: the decoder's answer on the bytes at `pc` is the fetched instruction, which the step of a running core
executes. -/
theorem stepRunsTheDecodedInstruction : Obligations.StepRunsTheDecodedInstruction := by
  intro s i more rest hrun hdecode
  obtain ⟨rest', hfetch⟩ := decode_at_pc s more
  cases hfetch.symm.trans hdecode
  rw [step_of_running hrun, exec_eq_runKind]

/-- Settles O14: no byte is listed, so memory is canonical, and the empty latch has no record to be true. -/
theorem resetMeetsTheInvariant : Obligations.ResetMeetsTheInvariant := ⟨⟨Memory.wf_nil, nofun⟩, rfl⟩

/-- Settles O27: every component but the latch and the configuration is INIT's own. -/
theorem resetReplacesTheWholeState : Obligations.ResetReplacesTheWholeState := by
  refine fun init s => ⟨fun r => ?_, rfl, rfl, rfl, fun a => State.load8_congr rfl a, rfl⟩
  cases r <;> rfl

/-- Settles O28: every register is zero, and memory lists nothing, so every byte is the unlisted one. -/
theorem resetStateIsTheDefaultInit : Obligations.ResetStateIsTheDefaultInit := by
  refine ⟨fun r => ?_, rfl, rfl, rfl, rfl, fun a => Memory.byteAt_nil a.toNat⟩
  cases r <;> rfl

end Sys2Proof.Proofs
end

section
/-! SUPPORT. Control transfer in the spec's own arithmetic (spec/48_ext_control_transfer.md R280 to R287), what a RET
after a CALL and a POP after a PUSH leave (R184, R185), and the statements about them. -/

open Sys2Proof Sys2Proof.Machine Sys2Proof.Claims

namespace Sys2Proof.Machine

/-! ## Jumps -/

theorem jr_of_taken {cc : Cond} {s : State} (h : taken cc s) : jr cc s = { s with pc := s.pc + 2 + disp (n8 s) } := by
  rw [jr, if_pos (condHolds_iff_taken.2 h), State.imm8_eq_n8, sext16_eq_disp]
  rfl

theorem jr_of_not_taken {cc : Cond} {s : State} (h : ¬taken cc s) : jr cc s = { s with pc := s.pc + 2 } :=
  if_neg (mt condHolds_iff_taken.1 h)

theorem jpHl_eq (s : State) : jpHl s = { s with pc := word s.h s.l } := by
  rw [jpHl, State.hl_eq_word]
  rfl

/-! ## Calls and returns -/

theorem call_of_taken {cc : Cond} {s : State} (h : taken cc s) : call cc s = (s.push16 (s.pc + 3)).setPc (nn s) := by
  rw [call, if_pos (condHolds_iff_taken.2 h), State.imm16_eq_nn]

theorem call_of_not_taken {cc : Cond} {s : State} (h : ¬taken cc s) : call cc s = { s with pc := s.pc + 3 } :=
  if_neg (mt condHolds_iff_taken.1 h)

theorem ret_of_taken {cc : Cond} {s : State} (h : taken cc s) : ret cc s = s.drop16.setPc s.top16 :=
  if_pos (condHolds_iff_taken.2 h)

theorem ret_of_not_taken {cc : Cond} {s : State} (h : ¬taken cc s) : ret cc s = { s with pc := s.pc + 1 } :=
  if_neg (mt condHolds_iff_taken.1 h)

/-- A push and the jump that follows it, in the arithmetic of R184 (R283, R287). -/
theorem State.setPc_push16_eq (s : State) (v target : Word) :
    (s.push16 v).setPc target =
      { (s.store8 (s.sp - 1) (BitVec.ofNat 8 (v.toNat / 256))).store8 (s.sp - 2) (BitVec.ofNat 8 v.toNat) with
        sp := s.sp - 2
        pc := target } := by
  rw [State.push16_eq_ofNat]
  rfl

/-- Popping what was pushed leaves only the two stack bytes written (R184, R185). -/
theorem State.drop16_push16 (s : State) (v : Word) : (s.push16 v).drop16 = { s with mem := (s.push16 v).mem } := by
  simp [State.drop16]

/-- The commit of `pc` leaves the stack alone. -/
theorem State.top16_advance (s : State) (n : Word) : (s.advance n).top16 = s.top16 := rfl

theorem State.drop16_advance (s : State) (n : Word) : (s.advance n).drop16 = s.drop16.advance n := rfl

/-- A return after a push and a jump takes the pushed word as its `pc` (R285). -/
theorem ret_push16_setPc (s : State) (v target : Word) :
    ret .always ((s.push16 v).setPc target) = { s with mem := (s.push16 v).mem, pc := v } :=
  calc ret .always ((s.push16 v).setPc target)
      = (s.push16 v).drop16.setPc (s.push16 v).top16 := rfl
    _ = { s with mem := (s.push16 v).mem, pc := v } := by
      rw [State.drop16_push16, State.top16_push16]
      rfl

/-- A pair of PUSH and POP is a view of the general registers and the flags (R26, R27). -/
theorem State.pair_congr {s t : State} (hreg : ∀ r, t.reg r = s.reg r) (hf : t.f = s.f) (p : Rp2) :
    t.pair p.toReg16 = s.pair p.toReg16 := by
  cases p with
  | bc => exact congrArg₂ join (hreg .b) (hreg .c)
  | de => exact congrArg₂ join (hreg .d) (hreg .e)
  | hl => exact congrArg₂ join (hreg .h) (hreg .l)
  | af => exact congrArg₂ join (hreg .a) (congrArg encodeFlags hf)

/-- POP after PUSH of the same pair writes the pair with its own value (R184, R185). -/
theorem pop_push (p : Rp2) (s : State) : pop p (push p s) = { s with mem := (push p s).mem, pc := s.pc + 2 } := by
  have htop : (push p s).top16 = s.pair p.toReg16 := by
    rw [push, State.top16_advance, State.top16_push16]
  have hdrop : (push p s).drop16 = { s with mem := (push p s).mem, pc := s.pc + 1 } := by
    rw [push, State.drop16_advance, State.drop16_push16]
    rfl
  have hpair : (push p s).drop16.pair p.toReg16 = s.pair p.toReg16 :=
    State.pair_congr (fun r => by simp [push]) (by simp [push]) p
  have hpc : s.pc + 1 + 1 = s.pc + 2 := BitVec.add_assoc ..
  rw [pop, htop, ← hpair, State.setPair_pair, hdrop, State.advance, hpc]

end Sys2Proof.Machine

namespace Sys2Proof.Proofs

/-- Settles O55: each cell is the jump on its condition, and the condition chooses the next pc and the operand read. -/
theorem relativeAndIndirectJumps : Obligations.RelativeAndIndirectJumps := by
  intro cc s
  have hkind : (cell (cc.byte 0x20 0x18)).kind = .jr cc := kind_jr cc
  refine ⟨fun h => exec_eq_next_of_kind (.jr cc) hkind (jr_of_taken h),
    fun h => exec_eq_next_of_kind (.jr cc) hkind (jr_of_not_taken h), fun h => ?_,
    exec_eq_next_of_kind .jpHl rfl (jpHl_eq s), rfl⟩
  rw [hkind]
  exact if_neg (mt condHolds_iff_taken.1 h)

/-- Settles O56: each cell is the call on its condition, whose operand stands in the state before the push. -/
theorem callsPushTheReturnAddress : Obligations.CallsPushTheReturnAddress := by
  intro cc s
  have hkind : (cell (cc.byte 0xC4 0xCD)).kind = .call cc := kind_call cc
  refine ⟨fun h => exec_eq_next_of_kind (.call cc) hkind ((call_of_taken h).trans (s.setPc_push16_eq _ _)),
    fun h => exec_eq_next_of_kind (.call cc) hkind (call_of_not_taken h), fun h => ?_⟩
  rw [hkind]
  exact if_neg (mt condHolds_iff_taken.1 h)

/-- Settles O57: each cell is the return on its condition, and not taken it reads nothing. -/
theorem returnsPopTheNextPc : Obligations.ReturnsPopTheNextPc := by
  intro cc s
  have hkind : (cell (cc.byte 0xC0 0xC9)).kind = .ret cc := kind_ret cc
  refine ⟨fun h => exec_eq_next_of_kind (.ret cc) hkind ((ret_of_taken h).trans ?_),
    fun h => exec_eq_next_of_kind (.ret cc) hkind (ret_of_not_taken h), fun h => ?_⟩
  · rw [State.top16, State.load16_eq_word]
    rfl
  · rw [hkind]
    exact if_neg (mt condHolds_iff_taken.1 h)

/-- Settles O58: each cell is the restart at its target. -/
theorem restartsCallTheirTarget : Obligations.RestartsCallTheirTarget := fun y s =>
  exec_eq_next_of_kind (.rst y) (kind_rst y) (s.setPc_push16_eq _ _)

/-- Settles O59: the return pops the address the call pushed. -/
theorem returnComesBackFromTheCall : Obligations.ReturnComesBackFromTheCall := by
  intro cc s h
  have hcall : exec (cell (cc.byte 0xC4 0xCD)) s = .next (call cc s) := exec_of_kind (kind_call cc) s
  have hret : exec (cell 0xC9) (call cc s) = .next (ret .always (call cc s)) := exec_of_kind (k := .ret .always) rfl _
  refine ⟨_, _, hcall, hret, ?_⟩
  rw [call_of_taken h]
  exact ret_push16_setPc s _ _

/-- Settles O42: the pop writes the pair with the value it had. -/
theorem popAfterPushRestoresThePair : Obligations.PopAfterPushRestoresThePair := by
  intro p s
  have hpush : exec (cell (at8 0xC5 (16 * p.index))) s = .next (push p s) := exec_of_kind (kind_push p) s
  have hpop : exec (cell (at8 0xC1 (16 * p.index))) (push p s) = .next (pop p (push p s)) :=
    exec_of_kind (kind_pop p) _
  exact ⟨_, _, hpush, hpop, pop_push p s⟩

end Sys2Proof.Proofs
end

section
/-! SUPPORT. The Inc and the Rlc of the source in the spec's own arithmetic, in both profiles
(spec/41_documented_instructions.md R131, R132, R134), and the two statements about them. -/

open Sys2Proof Sys2Proof.Machine Sys2Proof.Claims

namespace Sys2Proof.Machine

/-- The whole state after Inc, which advances under `completed` only (R131). -/
theorem incPair_eq (p : Rp) (s : State) :
    incPair p s =
      { s.setPair p.toReg16 (BitVec.ofNat 16 ((s.pair p.toReg16).toNat + 1)) with
        pc := if s.cfg.profile = .completed then s.pc + 1 else s.pc } := by
  have hpc : s.pc + incLen s.cfg = if s.cfg.profile = .completed then s.pc + 1 else s.pc := by
    unfold incLen
    split
    · rfl
    · exact BitVec.add_zero s.pc
  rw [incPair, State.advance_setPair, hpc, BitVec.add_def]
  rfl

theorem rlcReg_of_completed (r : Reg8) {s : State} (h : s.cfg.profile = .completed) :
    rlcReg r s = rotate .rlc (.reg r) s := if_pos h

/-- The register forms of RLC have the bytes of the second table's first row (R94, R132). -/
theorem kind_rlcReg (r : Reg8) : (cbCell (at8 0 r.index)).kind = .cb (.rot .rlc) (.reg r) :=
  kind_cbCell_of_eq rfl

end Sys2Proof.Machine

namespace Sys2Proof.Proofs

/-- Settles O30: the source's two cells under every TABLE, and the cell of each pair, are its increment. -/
theorem incrementPair : Obligations.IncrementPair := by
  intro t p s
  have hbc : (decodeCell t 0x02 false).kind = .inc .bc := by
    rw [decodeCell_of_mem_sourceCells t (by decide)]
    rfl
  have hde : (decodeCell t 0x13 false).kind = .inc .de := by
    rw [decodeCell_of_mem_sourceCells t (by decide)]
    rfl
  exact ⟨exec_eq_next_of_kind (.inc .bc) hbc (incPair_eq .bc s), exec_eq_next_of_kind (.inc .de) hde (incPair_eq .de s),
    exec_eq_next_of_kind (.inc p) (kind_incPair p) (incPair_eq p s)⟩

/-- Settles O31: each cell is the rotate of its register under `completed`, and without semantics under `as_built`. -/
theorem rotateRegisterLeftCircular : Obligations.RotateRegisterLeftCircular := by
  refine ⟨fun t => decodeCell_of_mem_sourceCells t (by decide), fun r s => ⟨fun hprofile => ?_, fun hprofile => ?_⟩⟩
  · exact exec_eq_next_of_kind (.cb (.rot .rlc) (.reg r)) (kind_rlcReg r)
      ((rlcReg_of_completed r hprofile).trans (rotate_eq .rlc (.reg r) s))
  · have hgap : withoutSemantics s (cbCell (at8 0 r.index)).kind := by
      rwa [kind_rlcReg, withoutSemantics_rlc_iff]
    rw [exec_eq_runKind, runKind_of_withoutSemantics hgap, reportKind_of_withoutSemantics hgap, kind_rlcReg]
    exact ⟨rfl, rfl⟩

end Sys2Proof.Proofs
end

section
/-! SUPPORT. DAA in the spec's own arithmetic (spec/46_ext_rotates_misc.md R245), decimal addition and subtraction by
it, and the two statements about it. -/

open Sys2Proof Sys2Proof.Machine Sys2Proof.Claims

namespace Sys2Proof.Machine

/-- A byte less a constant, as R245 writes the difference on numbers. -/
theorem toNat_sub_const (a k : Byte) : (a - k).toNat = (a.toNat + 256 - k.toNat) % 256 := by
  have hk := k.isLt
  rw [BitVec.toNat_sub]
  omega

/-- The adjustments of R245 on numbers. -/
theorem toNat_daaByte (a : Byte) (f : Flags) : (daaByte a f).toNat = daaValue a.toNat f := by
  unfold daaByte daaValue
  cases f.n with
  | false => simp [apply_ite BitVec.toNat, lo4, BitVec.toNat_add]
  | true =>
    simp only [apply_ite BitVec.toNat, toNat_sub_const]
    rfl

/-- The whole state after DAA (R245). -/
theorem daa_eq (s : State) :
    daa s =
      { s with
        a := BitVec.ofNat 8 (daaValue s.a.toNat s.f)
        f := { z := decide (daaValue s.a.toNat s.f = 0), n := s.f.n, h := false
               c := s.f.c || (!s.f.n && decide (s.a.toNat > 0x99)) }
        pc := s.pc + 1 } := by
  have hzero : (daaByte s.a s.f == 0) = decide (daaValue s.a.toNat s.f = 0) := by
    rw [← toNat_daaByte]
    exact decide_eq_decide.2 BitVec.toNat_inj.symm
  rw [daa, daaFlags, hzero, ← toNat_daaByte, BitVec.ofNat_toNat, BitVec.setWidth_eq]
  rfl

/-! ## Packed decimal bytes -/

theorem toNat_bcd {x : Nat} (h : x < 100) : (bcd x).toNat = x / 10 * 16 + x % 10 := by
  rw [bcd, BitVec.toNat_ofNat]
  omega

theorem lo4_bcd {x : Nat} (h : x < 100) : lo4 (bcd x) = x % 10 := by
  rw [lo4, toNat_bcd h]
  omega

section

variable {xh xl yh yl k c r1 r0 : Nat} {f : Flags}

/-- The packed sum against the digits of the decimal sum, with the carry `k` out of the low digit and `c` out of the
high one: the adjustments 0x06 and 0x60 are what is missing to the packed result. -/
theorem packed_add (hlow : xl + yl = 10 * k + r0) (hhigh : xh + yh + k = 10 * c + r1) :
    xh * 16 + xl + (yh * 16 + yl) + 6 * k = 160 * c + 16 * r1 + r0 := by
  omega

/-- DAA after an addition adds 0x60 exactly at a decimal carry: the packed sum passed 255, or 0x99 without that. -/
theorem daa_test_add (hlow : xl + yl = 10 * k + r0) (hhigh : xh + yh + k = 10 * c + r1) (hr0 : r0 < 10) (hr1 : r1 < 10)
    (hk : k ≤ 1) (hc : c ≤ 1) (hfc : f.c = true ↔ xh * 16 + xl + (yh * 16 + yl) > 255) :
    f.c = true ∨ (xh * 16 + xl + (yh * 16 + yl)) % 256 > 0x99 ↔ c = 1 := by
  have hsum := packed_add hlow hhigh
  rw [hfc]
  generalize xh * 16 + xl + (yh * 16 + yl) = sum at hsum ⊢
  rcases Nat.le_one_iff_eq_zero_or_eq_one.1 hc with rfl | rfl <;> omega

/-- DAA turns the packed sum of packed decimal bytes into the packed decimal sum (R245). -/
theorem daaValue_add (hlow : xl + yl = 10 * k + r0) (hhigh : xh + yh + k = 10 * c + r1) (hr0 : r0 < 10) (hr1 : r1 < 10)
    (hk : k ≤ 1) (hc : c ≤ 1) (hfc : f.c = true ↔ xh * 16 + xl + (yh * 16 + yl) > 255) (hn : f.n = false)
    (hfh : f.h = true ↔ xl + yl > 15) :
    daaValue ((xh * 16 + xl + (yh * 16 + yl)) % 256) f = r1 * 16 + r0 := by
  have hsum := packed_add hlow hhigh
  rw [daaValue, if_pos hn]
  simp only [daa_test_add hlow hhigh hr0 hr1 hk hc hfc, hfh, hlow]
  generalize xh * 16 + xl + (yh * 16 + yl) = sum at hsum ⊢
  rcases Nat.le_one_iff_eq_zero_or_eq_one.1 hk with rfl | rfl <;>
    rcases Nat.le_one_iff_eq_zero_or_eq_one.1 hc with rfl | rfl <;>
    split <;> split <;> omega

/-- DAA turns the packed difference of packed decimal bytes into the packed decimal difference, with the borrow `k` out
of the low digit and `c` out of the high one (R245). -/
theorem daaValue_sub (hlow : xl + 10 * k = yl + r0) (hhigh : xh + 10 * c = yh + k + r1) (hr0 : r0 < 10) (hr1 : r1 < 10)
    (hk : k ≤ 1) (hc : c ≤ 1) (hfc : f.c = true ↔ c = 1) (hn : f.n = true) (hfh : f.h = true ↔ k = 1) :
    daaValue ((xh * 16 + xl + 256 - (yh * 16 + yl)) % 256) f = r1 * 16 + r0 := by
  have hdiff : xh * 16 + xl + 256 - (yh * 16 + yl) = 16 * r1 + r0 + 6 * k + 256 - 160 * c := by omega
  rw [daaValue, if_neg (by rw [hn]; nofun), hdiff]
  simp only [hfc, hfh]
  clear hlow hhigh hdiff
  split <;> split <;> omega

end

/-! ## DAA after ADD and after SUB -/

section

variable {x y : Nat} (hx : x < 100) (hy : y < 100)

include hx hy

theorem addSum_bcd : addSum (bcd x) (bcd y) false = x / 10 * 16 + x % 10 + (y / 10 * 16 + y % 10) := by
  rw [addSum, toNat_bcd hx, toNat_bcd hy, Bool.toNat_false, Nat.add_zero]

/-- ADD of packed decimal bytes and then DAA: the decimal sum modulo 100, with the carry at 100 (R245). -/
theorem daa_of_add_bcd :
    daaByte (addByte (bcd x) (bcd y) false) (addFlags (bcd x) (bcd y) false) = bcd ((x + y) % 100) ∧
    (daaFlags (addByte (bcd x) (bcd y) false) (addFlags (bcd x) (bcd y) false)).c = decide (x + y ≥ 100) := by
  have hlow : x % 10 + y % 10 = 10 * ((x % 10 + y % 10) / 10) + (x + y) % 100 % 10 := by omega
  have hhigh : x / 10 + y / 10 + (x % 10 + y % 10) / 10 = 10 * ((x + y) / 100) + (x + y) % 100 / 10 := by omega
  have hr : (x + y) % 100 < 100 := Nat.mod_lt _ (by decide)
  have hfc : (addFlags (bcd x) (bcd y) false).c = true ↔ x / 10 * 16 + x % 10 + (y / 10 * 16 + y % 10) > 255 := by
    rw [← addSum_bcd hx hy]
    exact decide_eq_true_iff
  have hfh : (addFlags (bcd x) (bcd y) false).h = true ↔ x % 10 + y % 10 > 15 := by
    rw [← lo4_bcd hx, ← lo4_bcd hy]
    exact decide_eq_true_iff
  constructor
  · apply BitVec.eq_of_toNat_eq
    rw [toNat_daaByte, toNat_addByte, addSum_bcd hx hy, toNat_bcd hr]
    exact daaValue_add hlow hhigh (by omega) (by omega) (by omega) (by omega) hfc rfl hfh
  · have htest := daa_test_add hlow hhigh (by omega) (by omega) (by omega) (by omega) hfc
    rw [← addSum_bcd hx hy, ← toNat_addByte] at htest
    rw [Bool.eq_iff_iff, daaFlags, Bool.or_eq_true, Bool.and_eq_true, decide_eq_true_iff, decide_eq_true_iff]
    exact (or_congr_right (and_iff_right rfl)).trans (htest.trans (by omega))

/-- SUB of packed decimal bytes and then DAA: the decimal difference modulo 100, with the borrow (R245). -/
theorem daa_of_sub_bcd :
    daaByte (subByte (bcd x) (bcd y) false) (subFlags (bcd x) (bcd y) false) = bcd ((x + 100 - y) % 100) ∧
    (daaFlags (subByte (bcd x) (bcd y) false) (subFlags (bcd x) (bcd y) false)).c = decide (x < y) := by
  have hlow : x % 10 + 10 * ((y % 10 + 9 - x % 10) / 10) = y % 10 + (x + 100 - y) % 100 % 10 := by omega
  have hhigh : x / 10 + 10 * ((y + 99 - x) / 100) =
      y / 10 + (y % 10 + 9 - x % 10) / 10 + (x + 100 - y) % 100 / 10 := by omega
  have hr : (x + 100 - y) % 100 < 100 := Nat.mod_lt _ (by decide)
  have hborrow : (subFlags (bcd x) (bcd y) false).c = true ↔ x < y := by
    have hpacked : x / 10 * 16 + x % 10 < y / 10 * 16 + y % 10 ↔ x < y := by omega
    rw [← hpacked, ← toNat_bcd hx, ← toNat_bcd hy]
    exact decide_eq_true_iff
  have hfh : (subFlags (bcd x) (bcd y) false).h = true ↔ x % 10 < y % 10 := by
    rw [← lo4_bcd hx, ← lo4_bcd hy]
    exact decide_eq_true_iff
  have hsub : subByte (bcd x) (bcd y) false = bcd x - bcd y := BitVec.sub_zero _
  constructor
  · apply BitVec.eq_of_toNat_eq
    rw [toNat_daaByte, hsub, toNat_sub_const, toNat_bcd hx, toNat_bcd hy, toNat_bcd hr]
    exact daaValue_sub hlow hhigh (by omega) (by omega) (by omega) (by omega) (hborrow.trans (by omega)) rfl
      (hfh.trans (by omega))
  · rw [Bool.eq_iff_iff, decide_eq_true_iff, ← hborrow, daaFlags, Bool.or_eq_true]
    exact or_iff_left nofun

end

/-! ## The cells -/

theorem exec_daa (s : State) : exec (cell 0x27) s = .next (daa s) := exec_of_kind (k := .daa) rfl s

/-- ADD in every operand form that adds (R130, R201). -/
theorem exec_add {o : Operand8} {s : State}
    (h : ∀ r, o = .reg r → s.cfg.profile = .completed ∨ r ∈ s.cfg.addImpl) :
    exec (cell (operandByte 0 o)) s = .next
      { s with
        a := addByte s.a (operand o s) false
        f := addFlags s.a (operand o s) false
        pc := s.pc + operandLength o } := by
  cases o with
  | reg r =>
    exact exec_eq_next_of_kind (.alu .add (.reg r)) (kind_operandByte .add (.reg r))
      (addReg_of_implemented (addImplemented_iff.2 (h r rfl)))
  | memHl => exact exec_operandByte (op := .add) (fun _ => .inl rfl) rfl rfl
  | imm => exact exec_operandByte (op := .add) (fun _ => .inr rfl) rfl rfl

end Sys2Proof.Machine

namespace Sys2Proof.Proofs

/-- Settles O50: the cell is DAA, whose adjustments are those of the pseudocode on numbers. -/
theorem decimalAdjustOperation : Obligations.DecimalAdjustOperation := fun s =>
  exec_eq_next_of_kind .daa rfl (daa_eq s)

/-- Settles O51: DAA adds or takes off what the packed result lacks to the decimal one, digit by digit. -/
theorem decimalAdjustMakesDecimalArithmetic : Obligations.DecimalAdjustMakesDecimalArithmetic := by
  intro o x y s hx hy ha hv
  constructor
  · intro hadds
    refine ⟨_, _, exec_add hadds, exec_daa _, ?_⟩
    rw [ha, hv]
    exact daa_of_add_bcd hx hy
  · refine ⟨_, _, exec_operandByte (op := .sub) nofun rfl rfl, exec_daa _, ?_⟩
    rw [ha, hv]
    exact daa_of_sub_bcd hx hy

end Sys2Proof.Proofs
end
